-- ==== Sys2Proof/Word.lean ====
section
/-! DEFINITION. The bit-level words of the 5408's two kinds of port (bytes of frames and messages, the 16-bit
check and tally words) and the plain arithmetic of its counts (saturating and wrapping, 0.7.4). -/

namespace Sys2Proof

/-- One byte of a deck bus frame, a channel message or the configuration memory. -/
abbrev Byte := BitVec 8

/-- A 16-bit word: the checkword of a frame (R161) and the voyage tally's checkword (R78). -/
abbrev Word := BitVec 16

/-- A count that saturates at `top` (0.7.4). -/
def satAdd (top a b : Nat) : Nat := min (a + b) top

/-- One more, saturating at `top` (0.7.4). -/
def satInc (top a : Nat) : Nat := satAdd top a 1

/-- One more, returning to 0 after `top` (0.7.4). -/
def wrapInc (top a : Nat) : Nat := if top ≤ a then 0 else a + 1

/-- The value nearest to `a` between `lo` and `hi` (0.7.4). -/
def clamp (lo hi a : Nat) : Nat := max lo (min a hi)

end Sys2Proof
end

