-- ==== Sys2Proof/Config.lean ====
section
/-! DEFINITION. The sizes, ceilings and times the manual fixes for every 5408. Times are in milliseconds of the
1 ms timebase (0.7.2). Nothing here is left to an implementation: the manual states every value. -/

namespace Sys2Proof.Config

/-- Slots of the subscriber table (1.1). -/
def slotCount : Nat := 96
/-- Ceiling of K, C, the interval fields and the overrun volumes (Table 1.3). -/
def maxCharge : Nat := 16777215
/-- Ceiling of unrated data, KiB (Table 1.3). -/
def maxUnratedData : Nat := 1048575
/-- Ceiling of unrated voice, s (Table 1.3). -/
def maxUnratedVoice : Nat := 65535
/-- Every 16-bit saturating or wrapping count of the part. -/
def maxCount : Nat := 65535
/-- Largest voice increment of one USAGE, s (R10). -/
def maxVoiceIncrement : Nat := 3600
/-- Unrated data at which a USAGE brings about an interim rating, KiB (R28). -/
def interimData : Nat := 1024
/-- Unrated voice at which a USAGE brings about an interim rating, s (R28). -/
def interimVoice : Nat := 300
/-- Age at which an interval brings about an INTERVAL event: 900 s (R28, R30). -/
def intervalAge : Nat := 900000
/-- Denominator of the data numerator N (R35). -/
def dataDivisor : Nat := 65536
/-- Denominator of the voice numerator M (R37). -/
def voiceDivisor : Nat := 3840
/-- Places of the record store (R68). -/
def storePlaces : Nat := 64
/-- Most records held at which an interval record is still taken (R69). -/
def intervalRoom : Nat := 47
/-- Records held from which the store-high flag is set (R73). -/
def storeHigh : Nat := 48
/-- Largest count of one drain (R74). -/
def maxDrain : Nat := 16
/-- Ceiling of the records sent in one drain (R76). -/
def maxSent : Nat := 255
/-- Largest voyage number, and its wrap (R79). -/
def maxVoyage : Nat := 255
/-- Entries of the departure list (R59). -/
def departurePlaces : Nat := 32
/-- Life of a departure list entry: 3600 s (R60). -/
def departureLife : Nat := 3600000
/-- Places of the class-1 queue (R169). -/
def class1Places : Nat := 16
/-- Places of the class-6 queue (R172). -/
def reportPlaces : Nat := 2
/-- Largest deferral of a pending frame (R165). -/
def maxDeferral : Nat := 3
/-- Places of the radio directive queue (R181). -/
def radioPlaces : Nat := 16
/-- Places of the terminal directive queue (R181). -/
def terminalPlaces : Nat := 4
/-- Largest payload of a local channel message (R175). -/
def maxMessage : Nat := 16
/-- Largest payload of a deck bus frame (R162). -/
def maxPayload : Nat := 32
/-- Life of the slip flag: 60 s (R86). -/
def slipLife : Nat := 60000
/-- The leg field that says "unknown" (5.2.1). -/
def unknownLeg : Nat := 255
/-- Legs the ROUTE table can hold (R83). -/
def maxLegs : Nat := 48
/-- The listen period (R125). -/
def listenPeriod : Nat := 2000
/-- The dwell (R95). -/
def dwell : Nat := 2000
/-- Time between beacon times (R129). -/
def beaconPeriod : Nat := 250
/-- Silence after which a PRESENT peer is QUIET (R131). -/
def quietAfter : Nat := 750
/-- Silence after which a PRESENT or QUIET peer is LOST (R131). -/
def lostAfter : Nat := 2000
/-- The return hold of a cover-set member (R134). -/
def returnHold : Nat := 5000
/-- How far ahead HEALTH sets the deadline (R137). -/
def healthAhead : Nat := 1000
/-- How far ahead a granted HOLD sets the deadline (R138). -/
def holdAhead : Nat := 5000
/-- The orphan timer: 30 s (R140). -/
def orphanTime : Nat := 30000
/-- Silence after which a channel is LOST (R179). -/
def channelSilence : Nat := 1000
/-- The drain timer: 30 s (R110). -/
def drainTime : Nat := 30000
/-- The retry timer: 10 s (R111). -/
def retryTime : Nat := 10000
/-- Ceiling of the run count (Table 6.1). -/
def maxRun : Nat := 15
/-- Reports below the floor at which a link has degraded (R108). -/
def degradeCount : Nat := 5
/-- The timebase is a count of 48 bits (R191). -/
def timebaseModulus : Nat := 2 ^ 48

/-- A free value: the link id that a REPORT carries where the carrier view is none, of which the low 3 bits are sent. Table
12.7 gives station 0 there and no link id (assumption 35, DESIGN CHOICE). -/
opaque noCarrierLink : Nat

end Sys2Proof.Config
end

