-- ==== Sys2Proof/Syntax.lean ====
section
/-! DEFINITION. The commands of the 5408: one constructor of `Instr` for each row of spec/opcode_table.json, with
the operands the event brings from outside. A frame command carries the sender's station number and the payload
as Chapter 12 lays it out; `none` for a payload stands for one shorter than its layout (R195). -/

namespace Sys2Proof

/-- The serving state (R124). -/
inductive Serving where
  | starting | serving | dormant | dark
deriving DecidableEq, Repr

/-- The backhaul phase (Table 6.1); `none` on a station that is no terminal station. -/
inductive Phase where
  | none | off | settling | probing | standby | carrying | draining | failed
deriving DecidableEq, Repr

/-- The two local channels (10.1). -/
inductive Channel where
  | radio | terminal
deriving DecidableEq, Repr

/-- The five receive checks of a deck bus frame, in the order made (Table 9.2). -/
inductive RxCheck where
  | length | checkword | senderZero | unknownKind | classField
deriving DecidableEq, Repr

/-- Why a local message is discarded and counted: the four causes of R176 (the message never was a good one), then
the three of R177 (a good message that is not handed on). -/
inductive MessageError where
  | parity | framing | gap | checkbyte | unknownType | wrongLength | outOfRange
deriving DecidableEq, Repr

/-- A subset of the services data and voice (Table 1.3). -/
structure Services where
  data  : Bool
  voice : Bool
deriving DecidableEq, Repr

/-- The four strapped bus rates (R187). -/
inductive BusRate where
  | kbit250 | kbit500 | kbit1000 | kbit2000
deriving DecidableEq, Repr

/-- The four strapped local rates (R187). -/
inductive LocalRate where
  | bit19200 | bit38400 | bit57600 | bit115200
deriving DecidableEq, Repr

/-- The strap pins (R187). -/
structure Straps where
  station         : Nat
  terminalPresent : Bool
  linkId          : Nat
  busRate         : BusRate
  localRate       : LocalRate
  parity          : Bool
  twoStopBits     : Bool
deriving DecidableEq, Repr

/-- What the part reads from its board at power-on and at each restart: the strap pins (R187) and the configuration
memory's record, `none` where the memory does not answer (R188). -/
structure Board where
  straps : Straps
  memory : Option (List Byte)
deriving DecidableEq, Repr

/-- The levels outside the part at power-on: its board and the two hold lines (R183, R186). -/
structure Pins where
  board        : Board
  radioHold    : Bool
  terminalHold : Bool
deriving DecidableEq, Repr

/-- A RELEASE payload (Table 12.4). -/
structure ReleaseMsg where
  key        : Nat
  claimant   : Nat
  charge     : Nat
  capReached : Bool
  voyage     : Nat
deriving DecidableEq, Repr

/-- A BEACON payload (Table 12.5, Table 7.2). -/
structure BeaconMsg where
  serving     : Serving
  slip        : Bool
  radioFault  : Bool
  storeHigh   : Bool
  configFault : Bool
  hold        : Bool
  openCount   : Nat
  leg         : Nat
  voyage      : Nat
  linkId      : Nat
  phase       : Phase
  cover       : List Nat
deriving DecidableEq, Repr

/-- A TABLE-OPEN payload: the table code, the first and the last row (Table 12.4). -/
structure WindowMsg where
  table : Nat
  first : Nat
  last  : Nat
deriving DecidableEq, Repr

/-- The commands of the 5408, one for each row of the table of operations and events, in the table's order. -/
inductive Instr where
  /-- POWER_ON (R190): power-on with these levels at the pins. -/
  | powerOn (pins : Pins)
  /-- RESTART_COLD (R189): an accepted RESTART frame of kind COLD; `board` is what the part then reads. -/
  | restartCold (sender target : Nat) (board : Board)
  /-- RESTART_WARM (R189): an accepted RESTART frame of kind WARM. -/
  | restartWarm (sender target : Nat) (board : Board)
  /-- RESTART_PIN (R189): the restart pin becomes asserted. -/
  | restartPin (board : Board)
  /-- WAYPOINT (R85): a mark with the origin flag clear; its leg field. -/
  | waypoint (sender : Nat) (leg : Option Nat)
  /-- WAYPOINT_ORIGIN (R84): a mark with the origin flag set; its leg field is not read. -/
  | waypointOrigin (sender : Nat)
  /-- CLAIM_HEARD (R50). -/
  | claimHeard (sender : Nat) (key : Option Nat)
  /-- RELEASE_HEARD (R54). -/
  | releaseHeard (sender : Nat) (msg : Option ReleaseMsg)
  /-- LINK_CARRY_HEARD (R117): the sender's link id and hold flag. -/
  | linkCarryHeard (sender link : Nat) (hold : Bool)
  /-- LINK_DRAIN_HEARD (R118). -/
  | linkDrainHeard (sender link : Nat) (hold : Bool)
  /-- LINK_DOWN_HEARD (R118), with the failed mark of R113. -/
  | linkDownHeard (sender link : Nat) (hold failed : Bool)
  /-- BEACON_HEARD (R130). -/
  | beaconHeard (sender : Nat) (msg : Option BeaconMsg)
  /-- TABLE_OPEN (R152). -/
  | tableOpen (sender : Nat) (msg : Option WindowMsg)
  /-- TABLE_DATA (R153): the payload's bytes, of any length. -/
  | tableData (sender : Nat) (row : List Byte)
  /-- DRAIN_REQUEST (R74): the target station and the count. -/
  | drainRequest (sender : Nat) (msg : Option (Nat × Nat))
  /-- QUERY (R192): the target station. -/
  | query (sender : Nat) (target : Option Nat)
  /-- BILL_HEARD (R130). -/
  | billHeard (sender : Nat)
  /-- DRAIN_END_HEARD (R130). -/
  | drainEndHeard (sender : Nat)
  /-- REPORT_HEARD (R130). -/
  | reportHeard (sender : Nat)
  /-- FRAME_RECEIVE_ERROR (R162): the first check that failed. -/
  | frameReceiveError (check : RxCheck)
  /-- FRAME_START (R168). -/
  | frameStart
  /-- ARBITRATION_LOST (R164). -/
  | arbitrationLost
  /-- LINE_LOST (R166). -/
  | lineLost
  /-- FRAME_SENT (R167): `disturbed` is the receive check that the part's own reception of its frame fails, if any. -/
  | frameSent (disturbed : Option RxCheck)
  /-- BEACON_TIME (R129). -/
  | beaconTime
  /-- LISTEN_PERIOD_END (R127). -/
  | listenPeriodEnd
  /-- DWELL_EXPIRY (R96). -/
  | dwellExpiry
  /-- SLIP_FLAG_EXPIRY (R86). -/
  | slipFlagExpiry
  /-- DEPARTURE_EXPIRY (R60). -/
  | departureExpiry
  /-- PEER_QUIET (R131). -/
  | peerQuiet (peer : Nat)
  /-- PEER_LOST (R131). -/
  | peerLost (peer : Nat)
  /-- RETURN_HOLD_EXPIRY (R135). -/
  | returnHoldExpiry (peer : Nat)
  /-- HEALTH_DEADLINE_PASSED (R139). -/
  | healthDeadlinePassed
  /-- ORPHAN_TIMER_EXPIRY (R141). -/
  | orphanTimerExpiry
  /-- SETTLE_TIMER_EXPIRY (R105). -/
  | settleTimerExpiry
  /-- DRAIN_TIMER_EXPIRY (R110). -/
  | drainTimerExpiry
  /-- RETRY_TIMER_EXPIRY (R111). -/
  | retryTimerExpiry
  /-- RADIO_SILENCE_EXPIRY (R179). -/
  | radioSilenceExpiry
  /-- TERMINAL_SILENCE_EXPIRY (R179). -/
  | terminalSilenceExpiry
  /-- CHANNEL_BREAK (R178). -/
  | channelBreak (channel : Channel)
  /-- CHANNEL_MESSAGE_ERROR (R176, R177). -/
  | channelMessageError (channel : Channel) (error : MessageError)
  /-- CHANNEL_OVERRUN (R176). -/
  | channelOverrun (channel : Channel)
  /-- ATTACH (R6): key, home code and requested services. -/
  | attach (key home : Nat) (services : Services)
  /-- DETACH (R12). -/
  | detach (key : Nat)
  /-- USAGE (R10): key, data increment in KiB, voice increment in s. -/
  | usage (key data voice : Nat)
  /-- HEALTH (R137). -/
  | health
  /-- HOLD (R138). -/
  | hold
  /-- STATUS_UP (R112). -/
  | statusUp
  /-- STATUS_DOWN (R111). -/
  | statusDown
  /-- STATUS_IDLE (R110). -/
  | statusIdle
  /-- QUALITY (R105): the score. -/
  | quality (score : Nat)
  /-- RADIO_HOLD_LINE_ASSERTED (R182). -/
  | radioHoldLineAsserted
  /-- RADIO_HOLD_LINE_RELEASED (R182). -/
  | radioHoldLineReleased
  /-- TERMINAL_HOLD_LINE_CHANGE (R183): the level the line now has. -/
  | terminalHoldLineChange (asserted : Bool)
  /-- DIRECTIVE_SENT (R181). -/
  | directiveSent (channel : Channel)
  /-- RESTART_IGNORED (R189): the target and the kind code, or a payload shorter than its layout. -/
  | restartIgnored (sender : Nat) (msg : Option (Nat × Nat))
  /-- MALFORMED_LINK_FRAME (R195): a LINK frame too short, or of no announcement of Table 12.3. -/
  | malformedLinkFrame (sender : Nat)
  /-- MARK_HOLD_AFTER_RESTART_END (R186). -/
  | markHoldAfterRestartEnd (channel : Channel)
deriving DecidableEq, Repr

end Sys2Proof
end

