-- ==== Sys2Proof/Machine/State.lean ====
section
/-! DEFINITION. The state of the 5408, block by block as the manual divides it (0.4.2), as plain data, and the
state right after power-on (R190). Timers are held as the timebase value at which they run out, `none` where they do
not run. -/

namespace Sys2Proof.Machine

/-! ## Subscriber table (chapter 1) -/

/-- The two states of an open entry (R1). -/
inductive EntryState where
  | active | barred
deriving DecidableEq, Repr

/-- An open entry (Table 1.3). -/
structure Entry where
  key           : Nat
  state         : EntryState
  partner       : Nat
  grant         : Services
  k             : Nat
  cap           : Nat
  unratedData   : Nat
  unratedVoice  : Nat
  dataResidue   : Nat
  voiceResidue  : Nat
  start         : Nat
  data          : Nat
  voice         : Nat
  charge        : Nat
  forgiven      : Nat
  overrunData   : Nat
  overrunVoice  : Nat
  saturated     : Bool
  barredIn      : Bool
  mixed         : Bool
  zone          : Nat
  link          : Nat
  claimPending  : Bool
deriving DecidableEq, Repr

/-- The cause of a billing record (Table 4.1). -/
inductive Cause where
  | interval | zone | link | voyage | detach | handover | dormant | evict | withdrawn | orphan
deriving DecidableEq, Repr

/-- A billing record but for its sequence number, which it receives on entering the store (R65, R72). An optional
field that is absent is held as 0, which the manual says it stands for. -/
structure Record where
  key          : Nat
  station      : Nat
  voyage       : Nat
  cause        : Cause
  zone         : Nat
  link         : Nat
  data         : Nat
  voice        : Nat
  charge       : Nat
  kAfter       : Nat
  mixed        : Bool
  saturated    : Bool
  barredIn     : Bool
  forgiven     : Nat
  overrunData  : Nat
  overrunVoice : Nat
deriving DecidableEq, Repr

/-- A slot of the subscriber table (R1, R2). A CLOSING slot's key is that of the record it holds. -/
inductive Slot where
  | free
  | opened (e : Entry)
  | closing (r : Record)
deriving DecidableEq, Repr

/-- SUB: the slots, the two orders (slot numbers, oldest first; R5) and the unknown-usage count (R11). -/
structure Sub where
  slots        : List Slot
  attachOrder  : List Nat
  closingOrder : List Nat
  unknownUsage : Nat
deriving DecidableEq, Repr

/-! ## Handover (chapter 3) -/

/-- A departure list entry (section 3.4). -/
structure Departure where
  key        : Nat
  charge     : Nat
  capReached : Bool
  time       : Nat
deriving DecidableEq, Repr

/-- HOV: the departure list, oldest at the head, the pending claims and the two counts (R47, R55, R59). -/
structure Hov where
  departures     : List Departure
  pendingClaims  : List Nat
  staleReleases  : Nat
  departureDrops : Nat
deriving DecidableEq, Repr

/-! ## Billing store and drain (chapter 4) -/

/-- A record in the store, with its sequence number (R72). -/
structure Stored where
  sequence : Nat
  record   : Record
deriving DecidableEq, Repr

/-- The drain state (section 4.3). -/
inductive Drain where
  | idle
  | running (remaining sent : Nat)
  | ending (sent : Nat) (waiting : Option Nat)
deriving DecidableEq, Repr

/-- BSD: the store, head first, the record sequence, the voyage tally and the drain state. -/
structure Bsd where
  store        : List Stored
  nextSequence : Nat
  tallyWord    : Word
  tallyCount   : Nat
  drain        : Drain
deriving DecidableEq, Repr

/-! ## Route tracker (chapter 5) -/

/-- RTK (Table 5.1). The slip flag is held as the time at which it is cleared (R86). -/
structure Rtk where
  leg          : Nat
  voyage       : Nat
  zone         : Nat
  planLink     : Nat
  nextPlanLink : Nat
  silent       : Bool
  slipCount    : Nat
  slipUntil    : Option Nat
  badMarks     : Nat
deriving DecidableEq, Repr

/-! ## Shore link control (chapter 6) -/

/-- A carrier: a station with a link id (R114). -/
structure Carrier where
  station : Nat
  link    : Nat
deriving DecidableEq, Repr

/-- SLC (Table 6.1), with the terminal's hold line as the terminal channel handed it over (R112). -/
structure Slc where
  phase      : Phase
  activated  : Bool
  settleAt   : Option Nat
  runCount   : Nat
  belowFloor : Nat
  drainAt    : Option Nat
  retryAt    : Option Nat
  hold       : Bool
  view       : Option Carrier
  shoreHold  : Bool
  gateOpen   : Bool
  ratingLink : Nat
deriving DecidableEq, Repr

/-! ## Peer roster and coverage (chapter 7) -/

/-- The state of a peer (Table 7.3). -/
inductive PeerState where
  | unheard | present | quiet | lost
deriving DecidableEq, Repr

/-- The fields copied from a peer's last beacon (Table 7.3). -/
structure BeaconCopy where
  serving : Serving
  phase   : Phase
  linkId  : Nat
  leg     : Nat
deriving DecidableEq, Repr

/-- A roster entry (Table 7.3). -/
structure Peer where
  station   : Nat
  state     : PeerState
  lastHeard : Option Nat
  beacon    : Option BeaconCopy
  neighbour : Bool
deriving DecidableEq, Repr

/-- A member of the cover set, with its return hold (R134). -/
structure CoverMember where
  station   : Nat
  holdUntil : Option Nat
deriving DecidableEq, Repr

/-- PRC (7.3): serving state, listen timer, beacon schedule, roster, cover set, health deadline (`none` is passed),
hold allowance, the mark of R137, refused holds, orphan timer, and the dwell of R96. -/
structure Prc where
  serving        : Serving
  listenUntil    : Option Nat
  nextBeacon     : Option Nat
  roster         : List Peer
  cover          : List CoverMember
  healthDeadline : Option Nat
  holdUsed       : Bool
  deadlineByHold : Bool
  refusedHolds   : Nat
  orphanAt       : Option Nat
  dwellUntil     : Option Nat
  pendingWake    : Bool
deriving DecidableEq, Repr

/-! ## Table store (chapter 8) -/

/-- A TARIFF row (R147). -/
structure TariffRow where
  dataPrice  : Nat
  dataInc    : Nat
  voicePrice : Nat
  voiceInc   : Nat
deriving DecidableEq, Repr

/-- A PARTNER row (R148); the permitted zones as the byte of Table 12.8, bit z for zone z. -/
structure PartnerRow where
  home      : Nat
  cls       : Nat
  zones     : Byte
  services  : Services
  suspended : Bool
  cap       : Nat
deriving DecidableEq, Repr

/-- The ROUTE header (R149). -/
structure RouteHeader where
  length   : Nat
  fallback : Nat
deriving DecidableEq, Repr

/-- A ROUTE leg row (R149). -/
structure LegRow where
  zone : Nat
  link : Nat
deriving DecidableEq, Repr

/-- The kind of a shore link (R150). -/
inductive LinkKind where
  | terrestrial | port | satellite
deriving DecidableEq, Repr

/-- A LINK row (R150); the settle time in ms. -/
structure LinkRow where
  kind       : LinkKind
  surcharge  : Nat
  threshold  : Nat
  floor      : Nat
  run        : Nat
  settleTime : Nat
deriving DecidableEq, Repr

/-- A SILENCE row (R151). -/
structure SilenceRow where
  first   : Nat
  last    : Nat
  enabled : Bool
deriving DecidableEq, Repr

/-- The six tables (R146). -/
inductive TableId where
  | zone | tariff | partner | route | link | silence
deriving DecidableEq, Repr

/-- An open load window (Table 8.2). -/
structure Window where
  table   : TableId
  first   : Nat
  last    : Nat
  pointer : Nat
  sender  : Nat
deriving DecidableEq, Repr

/-- TBL: the six tables, the load window and its counts. -/
structure Tbl where
  zones        : List Nat
  tariffs      : List TariffRow
  partners     : List PartnerRow
  route        : RouteHeader
  legs         : List LegRow
  links        : List LinkRow
  silences     : List SilenceRow
  window       : Option Window
  refusedOpens : Nat
  strayData    : Nat
deriving DecidableEq, Repr

/-! ## Deck bus interface (chapter 9) -/

/-- A frame of class 1 (Table 3.1). -/
inductive Class1 where
  | claim (key : Nat)
  | release (m : ReleaseMsg)
deriving DecidableEq, Repr

/-- The announcement of a LINK frame; a DOWN with its failed mark (R113). -/
inductive Announce where
  | carry
  | drain
  | down (failed : Bool)
deriving DecidableEq, Repr

/-- A LINK frame's content (Table 12.4). -/
structure LinkMsg where
  linkId   : Nat
  hold     : Bool
  announce : Announce
deriving DecidableEq, Repr

/-- The stop status of a DRAIN-END (R77, R81). -/
inductive StopStatus where
  | countDone | storeEmpty | halted
deriving DecidableEq, Repr

/-- A DRAIN-END's content (Table 12.4). -/
structure DrainEndMsg where
  status     : StopStatus
  sent       : Nat
  voyage     : Nat
  tallyWord  : Word
  tallyCount : Nat
deriving DecidableEq, Repr

/-- A REPORT's content (R193, Table 12.7). -/
structure ReportMsg where
  serving         : Serving
  deadlinePassed  : Bool
  holdUsed        : Bool
  configFault     : Bool
  openCount       : Nat
  closingCount    : Nat
  freeCount       : Nat
  departures      : Nat
  storeCount      : Nat
  phase           : Phase
  terminalPresent : Bool
  linkId          : Nat
  linkKind        : LinkKind
  view            : Option Carrier
  leg             : Nat
  voyage          : Nat
  zone            : Nat
  cover           : List Nat
  unheard         : Nat
  present         : Nat
  quiet           : Nat
  lost            : Nat
  legDisagreement : Nat
  slipCount       : Nat
  busErrors       : Nat
  channelErrors   : Nat
  drops           : Nat
  refusedOpens    : Nat
deriving DecidableEq, Repr

/-- A frame waiting in a transmit queue, with its deferral and the time it entered (R165, R168). -/
structure Waiting (α : Type) where
  frame    : α
  deferral : Nat
  entered  : Nat
deriving DecidableEq, Repr

/-- The transmit queues (Table 9.4). -/
inductive TxQueue where
  | class1 | link | beacon | bill | drainEnd | report
deriving DecidableEq, Repr

/-- DBI: the transmit queues with the LINK waiting beside (R170), the queue whose oldest frame is on the line, and the
counts. A waiting BEACON has no content until its start bit (R171). -/
structure Dbi where
  class1            : List (Waiting Class1)
  link              : Option (Waiting LinkMsg)
  linkBeside        : Option (Waiting LinkMsg)
  beacon            : Option (Waiting (Option BeaconMsg))
  bill              : Option (Waiting Stored)
  drainEnd          : Option (Waiting DrainEndMsg)
  reports           : List (Waiting ReportMsg)
  onLine            : Option TxQueue
  lengthErrors      : Nat
  checkwordErrors   : Nat
  senderZeroErrors  : Nat
  unknownKindErrors : Nat
  classErrors       : Nat
  transmitErrors    : Nat
  class1Drops       : Nat
  reportDrops       : Nat
deriving DecidableEq, Repr

/-! ## Local channels (chapter 10) -/

/-- Why an ATTACH is refused (Table 1.4). -/
inductive RefuseReason where
  | notServing | malformed | noPartner | suspended | zoneNotPermitted | noService | tableFull
deriving DecidableEq, Repr

/-- A directive to the radio head (Table 10.1). -/
inductive RadioDirective where
  | admitSub (key : Nat) (services : Services)
  | refuse (key : Nat) (reason : RefuseReason)
  | bar (key : Nat)
  | unbar (key : Nat)
  | releaseSub (key : Nat)
  | cover (station : Nat) (on : Bool)
  | dataGate (isOpen : Bool)
  | dormant
  | identity (code : Nat)
  | wake
deriving DecidableEq, Repr

/-- A directive to the terminal (Table 10.1). -/
inductive TerminalDirective where
  | activate | deactivate | carryOn | carryOff
deriving DecidableEq, Repr

/-- A channel's receiver: hunting, or taking in a message of which these bytes have come, in order (R176). -/
inductive Receiver where
  | hunting
  | taking (bytes : List Byte)
deriving DecidableEq, Repr

/-- One local channel: UP or LOST, the time its silence is measured from (`none` before any), the receiver, the counts,
the directive queue (oldest first), whether the oldest is being sent, and the mark hold after a restart (R186). -/
structure Chan (δ : Type) where
  up          : Bool
  silenceFrom : Option Nat
  receiver    : Receiver
  errors      : Nat
  overruns    : Nat
  drops       : Nat
  queue       : List δ
  sending     : Bool
  markHold    : Bool
deriving DecidableEq, Repr

/-! ## Configuration and status (chapter 11) -/

/-- CFG: the straps as sampled, the neighbour list, the config-fault flag and the malformed-request count. -/
structure Cfg where
  straps      : Straps
  neighbours  : List Nat
  configFault : Bool
  malformed   : Nat
deriving DecidableEq, Repr

/-! ## The machine -/

/-- The whole 5408, with the two hold lines as they stand, and the queue of commands waiting to be taken. -/
structure State where
  pending      : List Instr
  timebase     : Nat
  radioHold    : Bool
  terminalHold : Bool
  sub          : Sub
  hov          : Hov
  bsd          : Bsd
  rtk          : Rtk
  slc          : Slc
  prc          : Prc
  tbl          : Tbl
  dbi          : Dbi
  rch          : Chan RadioDirective
  radioFault   : Bool
  tch          : Chan TerminalDirective
  cfg          : Cfg
deriving DecidableEq, Repr

/-- Reasons to stop with a fault: there are none. Every command of the table has an effect the manual states, in every
state, so no meaning ends in a fault. -/
inductive Fault where
deriving DecidableEq, Repr

/-- Reasons to refuse a command. -/
inductive Refusal where
  /-- Raised by `exec` alone, for a command with no meaning yet; safe, since nothing can be proved of such a command. -/
  | notModelled (mnemonic : String)
deriving DecidableEq, Repr

/-! ## Reset -/

/-- The straps `State.reset` is given: every pin low, one value for every run. DESIGN CHOICE (assumption 1), unsafe: the
straps are inputs and the manual gives them no value; POWER_ON takes them as its operand. -/
def resetStraps : Straps :=
  ⟨0, false, 0, .kbit250, .bit19200, false, false⟩

/-- The board `State.reset` is given: the straps above and no memory answering. DESIGN CHOICE (assumption 1), unsafe. -/
def resetBoard : Board := ⟨resetStraps, none⟩

/-- The pins `State.reset` is given. DESIGN CHOICE (assumption 1), unsafe. -/
def resetPins : Pins := ⟨resetBoard, false, false⟩

/-- SUB after power-on (R22). -/
def Sub.reset : Sub := ⟨List.replicate Config.slotCount .free, [], [], 0⟩

/-- HOV after power-on (R63). -/
def Hov.reset : Hov := ⟨[], [], 0, 0⟩

/-- BSD after power-on (R80). -/
def Bsd.reset : Bsd := ⟨[], 0, 0, 0, .idle⟩

/-- RTK after power-on (R99). -/
def Rtk.reset : Rtk := ⟨0, 0, 0, 0, 0, false, 0, none, 0⟩

/-- SLC after power-on, in this phase and with the hold line read as `hold` (R122, R183). -/
def Slc.reset (phase : Phase) (hold : Bool) : Slc :=
  ⟨phase, false, none, 0, 0, none, none, hold, none, false, false, 0⟩

/-- A TARIFF row of zeros (R159). -/
def TariffRow.zero : TariffRow := ⟨0, 0, 0, 0⟩
/-- A PARTNER row of zeros: empty (R159). -/
def PartnerRow.zero : PartnerRow := ⟨0, 0, 0, ⟨false, false⟩, false, 0⟩
/-- A ROUTE leg row of zeros (R159). -/
def LegRow.zero : LegRow := ⟨0, 0⟩
/-- A LINK row of zeros (R159). -/
def LinkRow.zero : LinkRow := ⟨.terrestrial, 0, 0, 0, 0, 0⟩
/-- A SILENCE row of zeros: not enabled (R159). -/
def SilenceRow.zero : SilenceRow := ⟨0, 0, false⟩

/-- TBL after power-on (R159). -/
def Tbl.reset : Tbl :=
  ⟨List.replicate 8 0, List.replicate 32 .zero, List.replicate 64 .zero, ⟨0, 0⟩, List.replicate 48 .zero,
    List.replicate 8 .zero, List.replicate 4 .zero, none, 0, 0⟩

/-- DBI after power-on and every restart: queues empty, nothing on the line, counts 0 (R173). -/
def Dbi.reset : Dbi := ⟨[], none, none, none, none, none, [], none, 0, 0, 0, 0, 0, 0, 0, 0⟩

/-- A channel after power-on and every restart: LOST, hunting, queue empty, counts 0, its transmitter holding the line at
mark (R186). -/
def Chan.reset {δ : Type} : Chan δ := ⟨false, none, .hunting, 0, 0, 0, [], false, true⟩

/-- The roster of station `own`, every entry UNHEARD, in station-number order; an entry for each number 1..31 but its
own (R125, R128, R132). -/
def resetRoster (own : Nat) (neighbours : List Nat) : List Peer :=
  ((List.range' 1 31).filter (fun n => n != own)).map
    (fun n => ⟨n, .unheard, none, none, neighbours.contains n⟩)

/-- PRC after power-on and every restart (R125, R143); the listen timer runs but at a listen-only station (R128). -/
def Prc.reset (now own : Nat) (neighbours : List Nat) : Prc :=
  ⟨.starting, if own = 0 then none else some (now + Config.listenPeriod), none, resetRoster own neighbours, [], none,
    false, false, 0, none, none, false⟩

/-- The machine right after power-on with the pins of `resetPins` (R190): every block at its reset values, DORMANT alone
queued to the radio head, and no command waiting. -/
def State.reset : State where
  pending      := []
  timebase     := 0
  radioHold    := false
  terminalHold := false
  sub          := .reset
  hov          := .reset
  bsd          := .reset
  rtk          := .reset
  slc          := .reset .none false
  prc          := .reset 0 0 []
  tbl          := .reset
  dbi          := .reset
  rch          := { (Chan.reset : Chan RadioDirective) with queue := [.dormant] }
  radioFault   := false
  tch          := .reset
  cfg          := ⟨resetStraps, [], true, 0⟩

end Sys2Proof.Machine
end

