-- ==== Sys2Proof/Machine/Ops.lean ====
section
/-! DEFINITION. The operations every family shares: reading and writing slots, queuing directives and frames with
their drop rules (R169, R170, R172, R181), and the time of a timer. -/

namespace Sys2Proof.Machine

/-! ## Time -/

/-- A timer runs and its time has come (0.7.2). -/
def due (t : Option Nat) (now : Nat) : Bool :=
  match t with
  | none => false
  | some d => d ≤ now

/-- `span` has passed since `t` (R191: aged by plain subtraction). -/
def elapsed (t : Option Nat) (now span : Nat) : Bool :=
  match t with
  | none => false
  | some v => span ≤ now - v

/-! ## Identity of the station -/

/-- The strapped station number (R187). -/
def State.own (s : State) : Nat := s.cfg.straps.station

/-- Station number 0: listen-only (R174). -/
def State.listenOnly (s : State) : Bool := s.own == 0

/-- A terminal station under these straps (R100). -/
def terminalStraps (p : Straps) : Bool := p.terminalPresent && p.station != 0

/-- A terminal station (R100). -/
def State.isTerminal (s : State) : Bool := terminalStraps s.cfg.straps

/-! ## Slots of the subscriber table -/

/-- Slot `i` of the table; FREE where there is no such slot. -/
def State.slot (s : State) (i : Nat) : Slot := s.sub.slots.getD i .free

/-- Write slot `i`. -/
def State.setSlot (s : State) (i : Nat) (x : Slot) : State :=
  { s with sub := { s.sub with slots := s.sub.slots.set i x } }

/-- A FREE slot. -/
def Slot.isFree : Slot → Bool
  | .free => true
  | _ => false

/-- An open slot (R1). -/
def Slot.isOpen : Slot → Bool
  | .opened _ => true
  | _ => false

/-- A CLOSING slot. -/
def Slot.isClosing : Slot → Bool
  | .closing _ => true
  | _ => false

/-- A slot open for this key; a CLOSING slot's key is looked up by no event (R1). -/
def Slot.opensKey (key : Nat) : Slot → Bool
  | .opened e => e.key == key
  | _ => false

/-- The slot in which the key is open, if any. -/
def State.findOpen (s : State) (key : Nat) : Option Nat :=
  s.sub.slots.findIdx? (Slot.opensKey key)

/-- The lowest-numbered FREE slot (R4). -/
def State.firstFree (s : State) : Option Nat := s.sub.slots.findIdx? Slot.isFree

/-- The entry held open in slot `i`. -/
def State.entry? (s : State) (i : Nat) : Option Entry :=
  match s.slot i with
  | .opened e => some e
  | _ => none

/-- Apply `f` to the entry held open in slot `i`; nothing where the slot is not open. -/
def State.updateEntry (s : State) (i : Nat) (f : Entry → Entry) : State :=
  match s.slot i with
  | .opened e => s.setSlot i (.opened (f e))
  | _ => s

/-- Open entries (R21). -/
def State.openCount (s : State) : Nat := s.sub.slots.countP Slot.isOpen

/-! ## Directives (R181, R182) -/

/-- Queue a directive: it joins the tail and is started where the transmitter may start (`gate`) and none is being
sent; in a full queue it is dropped and counted (R181). -/
def Chan.enqueue {δ : Type} (places : Nat) (gate : Bool) (d : δ) (c : Chan δ) : Chan δ :=
  if places ≤ c.queue.length then { c with drops := satInc Config.maxCount c.drops }
  else { c with queue := c.queue ++ [d], sending := c.sending || gate }

/-- The transmitter starts the oldest directive where one waits, none is being sent and it may start (R182). -/
def Chan.start {δ : Type} (gate : Bool) (c : Chan δ) : Chan δ :=
  { c with sending := c.sending || (gate && !c.queue.isEmpty) }

/-- The radio transmitter may start a directive: no hold line (R182) and no mark hold (R186). -/
def State.radioGate (s : State) : Bool := !s.radioHold && !s.rch.markHold

/-- The terminal transmitter may start a directive: its hold line does not gate it (R183). -/
def State.terminalGate (s : State) : Bool := !s.tch.markHold

/-- Queue a directive to the radio head; a drop sets the radio-fault flag (R181). -/
def queueRadio (d : RadioDirective) (s : State) : State :=
  { s with
    rch := s.rch.enqueue Config.radioPlaces s.radioGate d
    radioFault := s.radioFault || decide (Config.radioPlaces ≤ s.rch.queue.length) }

/-- Queue a directive to the terminal (R181). -/
def queueTerminal (d : TerminalDirective) (s : State) : State :=
  { s with tch := s.tch.enqueue Config.terminalPlaces s.terminalGate d }

/-! ## Pending claims (R47 to R49) -/

/-- A key leaves the pending claims, and its open entry's own-claim-pending flag is cleared (R48, R49). -/
def forgetClaim (key : Nat) (s : State) : State :=
  let s1 := { s with hov := { s.hov with pendingClaims := s.hov.pendingClaims.erase key } }
  match s1.findOpen key with
  | none => s1
  | some i => s1.updateEntry i (fun e => { e with claimPending := false })

/-! ## Transmit queues -/

/-- A frame as it enters its queue: deferral 0, entered now (R165, R168). -/
def State.enter (s : State) {α : Type} (x : α) : Waiting α := ⟨x, 0, s.timebase⟩

/-- The oldest CLAIM of a class-1 queue, with the queue without it. -/
def splitClaim : List (Waiting Class1) → Option (Nat × List (Waiting Class1))
  | [] => none
  | w :: rest =>
    match w.frame with
    | .claim k => some (k, rest)
    | .release _ => (splitClaim rest).map (fun p => (p.1, w :: p.2))

/-- The oldest CLAIM not on the line, with the queue without it: the frame on the line is the head (R168, R169). -/
def splitFreeClaim (headOnLine : Bool) (q : List (Waiting Class1)) : Option (Nat × List (Waiting Class1)) :=
  if headOnLine then
    match q with
    | [] => none
    | h :: rest => (splitClaim rest).map (fun p => (p.1, h :: p.2))
  else splitClaim q

/-- One more class-1 drop (R169). -/
def countClass1Drop (s : State) : State :=
  { s with dbi := { s.dbi with class1Drops := satInc Config.maxCount s.dbi.class1Drops } }

/-- Offer a RELEASE to the class-1 queue (R53, R169). A listen-only station queues no frame (R174). -/
def offerRelease (m : ReleaseMsg) (s : State) : State :=
  if s.listenOnly then s
  else if s.dbi.class1.length < Config.class1Places then
    { s with dbi := { s.dbi with class1 := s.dbi.class1 ++ [s.enter (.release m)] } }
  else
    match splitFreeClaim (s.dbi.onLine == some .class1) s.dbi.class1 with
    | none => countClass1Drop s
    | some (key, q) =>
      forgetClaim key (countClass1Drop { s with dbi := { s.dbi with class1 := q ++ [s.enter (.release m)] } })

/-- Offer a CLAIM to the class-1 queue; in a full queue it is dropped and R49 applies (R169). -/
def offerClaim (key : Nat) (s : State) : State :=
  if s.listenOnly then s
  else if s.dbi.class1.length < Config.class1Places then
    { s with dbi := { s.dbi with class1 := s.dbi.class1 ++ [s.enter (.claim key)] } }
  else forgetClaim key (countClass1Drop s)

/-- Offer a LINK frame to the class-2 queue: it enters, replaces the unsent one, or waits beside the one on the line,
replacing one that waits there (R170); one that replaces another keeps its deferral and age (R168, R170). -/
def offerLink (m : LinkMsg) (s : State) : State :=
  if s.listenOnly then s
  else
    match s.dbi.link with
    | none => { s with dbi := { s.dbi with link := some (s.enter m) } }
    | some w =>
      if s.dbi.onLine == some .link then
        { s with dbi := { s.dbi with linkBeside :=
            match s.dbi.linkBeside with
            | none => some (s.enter m)
            | some b => some { b with frame := m } } }
      else { s with dbi := { s.dbi with link := some { w with frame := m } } }

/-- Queue a BEACON at a beacon time where none waits (R129, R171). -/
def offerBeacon (s : State) : State :=
  if s.listenOnly || s.dbi.beacon.isSome then s
  else { s with dbi := { s.dbi with beacon := some (s.enter none) } }

/-- Put a record into the class-5 place for BILL (R171). -/
def placeBill (r : Stored) (s : State) : State :=
  if s.listenOnly then s else { s with dbi := { s.dbi with bill := some (s.enter r) } }

/-- Put a DRAIN-END into its class-5 place (R171). -/
def placeDrainEnd (m : DrainEndMsg) (s : State) : State :=
  if s.listenOnly then s else { s with dbi := { s.dbi with drainEnd := some (s.enter m) } }

/-- Queue a REPORT; a third one is dropped and counted (R172). -/
def offerReport (m : ReportMsg) (s : State) : State :=
  if s.listenOnly then s
  else if s.dbi.reports.length < Config.reportPlaces then
    { s with dbi := { s.dbi with reports := s.dbi.reports ++ [s.enter m] } }
  else { s with dbi := { s.dbi with reportDrops := satInc Config.maxCount s.dbi.reportDrops } }

/-- One more malformed request (R195). -/
def countMalformed (s : State) : State :=
  { s with cfg := { s.cfg with malformed := satInc Config.maxCount s.cfg.malformed } }

end Sys2Proof.Machine
end

