-- ==== Sys2Proof/Machine/Operands.lean ====
section
/-! DEFINITION. The operand forms: numbers as bytes, most significant first (12.1), the codes of Table 12.2 and
12.3, and the table rows of Table 12.8 with the clamping of Table 8.3. -/

namespace Sys2Proof.Machine

/-! ## Numbers and bytes -/

/-- `n` in `k` bytes, most significant first (12.1). -/
def bytesOf (k n : Nat) : List Byte :=
  match k with
  | 0 => []
  | k + 1 => BitVec.ofNat 8 (n >>> (8 * k)) :: bytesOf k n

/-- The number that bytes give, most significant first (12.1). -/
def natOf (bs : List Byte) : Nat := bs.foldl (fun n b => n * 256 + b.toNat) 0

/-- `count` bytes from place `i` on; every byte not there reads as recessive ones (R162). -/
def field (bs : List Byte) (i count : Nat) : Nat :=
  natOf ((List.range count).map (fun j => bs.getD (i + j) 0xFF#8))

/-- A flag as a bit. -/
def flagBit (b : Bool) (place : Nat) : Nat := if b then 2 ^ place else 0

/-- Bit `place` of byte `i`. -/
def bitAt (bs : List Byte) (i place : Nat) : Bool := (field bs i 1).testBit place

/-! ## Codes (Tables 12.2, 12.3) -/

/-- The frame kinds (Table 9.3). -/
inductive Kind where
  | waypoint | restart | claim | release | link | beacon | tableOpen | tableData | drainRequest | bill | drainEnd
  | query | report
deriving DecidableEq, Repr

/-- Kind codes (Table 12.2). -/
def Kind.code : Kind → Nat
  | .waypoint => 0x01
  | .restart => 0x02
  | .claim => 0x08
  | .release => 0x09
  | .link => 0x10
  | .beacon => 0x18
  | .tableOpen => 0x20
  | .tableData => 0x21
  | .drainRequest => 0x22
  | .bill => 0x28
  | .drainEnd => 0x29
  | .query => 0x30
  | .report => 0x31

/-- The class fixed for each kind (Table 9.3). -/
def Kind.cls : Kind → Nat
  | .waypoint => 0
  | .restart => 0
  | .claim => 1
  | .release => 1
  | .link => 2
  | .beacon => 3
  | .tableOpen => 4
  | .tableData => 4
  | .drainRequest => 4
  | .bill => 5
  | .drainEnd => 5
  | .query => 6
  | .report => 6

/-- The kinds, for looking a code up. -/
def Kind.all : List Kind :=
  [.waypoint, .restart, .claim, .release, .link, .beacon, .tableOpen, .tableData, .drainRequest, .bill, .drainEnd,
    .query, .report]

/-- The kind a code names, if any. -/
def Kind.ofCode (n : Nat) : Option Kind := Kind.all.find? (fun k => k.code == n)

/-- Serving state codes (Table 12.3). -/
def servingCode : Serving → Nat
  | .starting => 0
  | .serving => 1
  | .dormant => 2
  | .dark => 3

/-- The serving state of a two-bit code (Table 12.3). -/
def servingOf (n : Nat) : Serving :=
  match n % 4 with
  | 0 => .starting
  | 1 => .serving
  | 2 => .dormant
  | _ => .dark

/-- Backhaul phase codes (Table 12.3). -/
def phaseCode : Phase → Nat
  | .none => 0
  | .off => 1
  | .settling => 2
  | .probing => 3
  | .standby => 4
  | .carrying => 5
  | .draining => 6
  | .failed => 7

/-- The phase of a three-bit code (Table 12.3). -/
def phaseOf (n : Nat) : Phase :=
  match n % 8 with
  | 0 => .none
  | 1 => .off
  | 2 => .settling
  | 3 => .probing
  | 4 => .standby
  | 5 => .carrying
  | 6 => .draining
  | _ => .failed

/-- Record cause codes (Table 12.3). -/
def causeCode : Cause → Nat
  | .interval => 1
  | .zone => 2
  | .link => 3
  | .voyage => 4
  | .detach => 5
  | .handover => 6
  | .dormant => 7
  | .evict => 8
  | .withdrawn => 9
  | .orphan => 10

/-- Drain stop status codes (Table 12.3). -/
def stopCode : StopStatus → Nat
  | .countDone => 1
  | .storeEmpty => 2
  | .halted => 3

/-- Restart kind code WARM (Table 12.3). -/
def warmCode : Nat := 1
/-- Restart kind code COLD (Table 12.3). -/
def coldCode : Nat := 2

/-- The table a code names (Table 12.3). -/
def tableOf (n : Nat) : Option TableId :=
  match n with
  | 1 => some .zone
  | 2 => some .tariff
  | 3 => some .partner
  | 4 => some .route
  | 5 => some .link
  | 6 => some .silence
  | _ => none

/-- Link kind codes (Table 12.3). -/
def linkKindCode : LinkKind → Nat
  | .terrestrial => 0
  | .port => 1
  | .satellite => 2

/-- The kind a written code is stored as: SATELLITE for a code naming none (Table 8.3). -/
def linkKindOf (n : Nat) : LinkKind :=
  match n with
  | 0 => .terrestrial
  | 1 => .port
  | _ => .satellite

/-- Refusal reason codes (Table 12.9). -/
def refuseCode : RefuseReason → Nat
  | .notServing => 1
  | .malformed => 2
  | .noPartner => 3
  | .suspended => 4
  | .zoneNotPermitted => 5
  | .noService => 6
  | .tableFull => 7

/-- A services byte: bit 0 data, bit 1 voice (Tables 12.8, 12.9). -/
def servicesCode (v : Services) : Nat := flagBit v.data 0 + flagBit v.voice 1

/-- The services of a byte's two low bits (R196). -/
def servicesOf (n : Nat) : Services := ⟨n.testBit 0, n.testBit 1⟩

/-! ## Rows of the tables (Table 12.8, Table 8.3) -/

/-- Rows of each table (Table 8.1). -/
def TableId.rows : TableId → Nat
  | .zone => 8
  | .tariff => 32
  | .partner => 64
  | .route => 49
  | .link => 8
  | .silence => 4

/-- Row length of each table in bytes (Table 12.8). -/
def TableId.rowLength : TableId → Nat
  | .zone => 3
  | .tariff => 7
  | .partner => 9
  | .route => 2
  | .link => 6
  | .silence => 3

/-- A TARIFF row from its bytes, clamped (Table 8.3). -/
def tariffOf (bs : List Byte) : TariffRow :=
  ⟨field bs 0 2, clamp 1 1024 (field bs 2 2), field bs 4 2, clamp 1 60 (field bs 6 1)⟩

/-- A PARTNER row from its bytes; the class by its remainder on division by 4 (Table 8.3). -/
def partnerOf (bs : List Byte) : PartnerRow :=
  ⟨field bs 0 3, field bs 3 1 % 4, bs.getD 4 0xFF#8, servicesOf (field bs 5 1), bitAt bs 5 7, field bs 6 3⟩

/-- The ROUTE header from its bytes, clamped (Table 8.3). -/
def headerOf (bs : List Byte) : RouteHeader := ⟨min (field bs 0 1) Config.maxLegs, field bs 1 1 % 8⟩

/-- A ROUTE leg row from its bytes, clamped (Table 8.3). -/
def legRowOf (bs : List Byte) : LegRow := ⟨field bs 0 1 % 8, field bs 1 1 % 8⟩

/-- A LINK row from its bytes, clamped (Table 8.3); the settle time in tens of ms (Table 12.8). -/
def linkRowOf (bs : List Byte) : LinkRow :=
  ⟨linkKindOf (field bs 0 1), max 32 (field bs 1 1), min 63 (field bs 2 1), min 63 (field bs 3 1),
    clamp 2 15 (field bs 4 1), 10 * field bs 5 1⟩

/-- A SILENCE row from its bytes, its legs held as written (R151). -/
def silenceOf (bs : List Byte) : SilenceRow := ⟨field bs 0 1, field bs 1 1, bitAt bs 2 0⟩

/-! ## Counts carried by commands -/

/-- The count of a DRAIN-REQUEST: 0 as 1, above 16 as 16 (R74). -/
def clampDrain (n : Nat) : Nat := clamp 1 Config.maxDrain n

/-- The voice increment of a USAGE, above 3,600 as 3,600 (R10). -/
def clampVoice (n : Nat) : Nat := min n Config.maxVoiceIncrement

end Sys2Proof.Machine
end

