-- ==== Sys2Proof/Machine/Flags.lean ====
section
/-! DEFINITION. The conditions and flags computed from the state: what the route and the tables imply for a leg, the
wanted and carry conditions, the ranking of carriers, the data gate, and when a neighbour has failed. -/

namespace Sys2Proof.Machine

/-! ## Route (R83, R93) -/

/-- The row of leg `j` (R83). -/
def State.legRow (s : State) (j : Nat) : LegRow := s.tbl.legs.getD j .zero

/-- The leg after this one: (leg + 1) mod L (R83). -/
def State.nextLeg (s : State) : Nat := (s.rtk.leg + 1) % s.tbl.route.length

/-- The zone of the current leg; 0 where there is no route (R83). -/
def State.derivedZone (s : State) : Nat :=
  if s.tbl.route.length = 0 then 0 else (s.legRow s.rtk.leg).zone

/-- The plan link of the current leg (R83). -/
def State.derivedPlan (s : State) : Nat :=
  if s.tbl.route.length = 0 then 0 else (s.legRow s.rtk.leg).link

/-- The plan link of the next leg (R83). -/
def State.derivedNextPlan (s : State) : Nat :=
  if s.tbl.route.length = 0 then 0 else (s.legRow s.nextLeg).link

/-- A SILENCE row is active: enabled, both legs below L (R93). -/
def SilenceRow.active (len : Nat) (r : SilenceRow) : Bool := r.enabled && r.first < len && r.last < len

/-- An active row covers the leg; a row whose first leg is above its last wraps round the route's end (R93). -/
def SilenceRow.covers (len leg : Nat) (r : SilenceRow) : Bool :=
  r.active len &&
    (if r.first ≤ r.last then r.first ≤ leg && leg ≤ r.last
     else (r.first ≤ leg && leg < len) || leg ≤ r.last)

/-- The silence status the leg implies (R93). -/
def State.derivedSilent (s : State) : Bool :=
  s.tbl.silences.any (SilenceRow.covers s.tbl.route.length s.rtk.leg)

/-- The identity code of the current zone (R90). -/
def State.identityCode (s : State) : Nat := s.tbl.zones.getD s.rtk.zone 0

/-! ## Partners (R7, R15) -/

/-- Row `i` of the PARTNER table. -/
def State.partnerRow (s : State) (i : Nat) : PartnerRow := s.tbl.partners.getD i .zero

/-- The row permits the zone (R148). -/
def PartnerRow.permits (r : PartnerRow) (zone : Nat) : Bool := r.zones.getLsbD zone

/-- The row fails the re-check: empty, suspended, or not permitting the zone (R15, R89). -/
def PartnerRow.fails (r : PartnerRow) (zone : Nat) : Bool := r.home == 0 || r.suspended || !r.permits zone

/-- The lowest-numbered row that holds the home code; a row of 0 is empty (R7). -/
def State.findPartner (s : State) (home : Nat) : Option Nat :=
  s.tbl.partners.findIdx? (fun r => r.home != 0 && r.home == home)

/-! ## Subscribers -/

/-- The ceiling E of an entry: C, or 16,777,215 where C is 0 (R39). -/
def ceilingOf (cap : Nat) : Nat := if cap = 0 then Config.maxCharge else cap

/-- K has reached a non-zero C (R13, R51, R58). -/
def capReached (cap k : Nat) : Bool := cap != 0 && k == cap

/-- The entry's K has reached its C. -/
def Entry.capReached (e : Entry) : Bool := Machine.capReached e.cap e.k

/-- Neither service (R7). -/
def noServices (v : Services) : Bool := !v.data && !v.voice

/-- The services common to two sets (R7). -/
def commonServices (v w : Services) : Services := ⟨v.data && w.data, v.voice && w.voice⟩

/-- The admission mask: the grant, without data while the data gate is closed (R9). -/
def State.mask (s : State) (grant : Services) : Services := ⟨grant.data && s.slc.gateOpen, grant.voice⟩

/-- The interval has content and so makes a record (R67). -/
def Entry.hasContent (e : Entry) : Bool :=
  e.data != 0 || e.voice != 0 || e.charge != 0 || e.forgiven != 0 || e.overrunData != 0 || e.overrunVoice != 0

/-- The store holds 48 records or more (R73). -/
def State.storeHigh (s : State) : Bool := Config.storeHigh ≤ s.bsd.store.length

/-! ## Roster (R133) -/

/-- The roster's entry for a station. -/
def State.peer? (s : State) (p : Nat) : Option Peer := s.prc.roster.find? (fun e => e.station == p)

/-- A neighbour's entry shows it failed: LOST, or DARK in its last beacon (R133). -/
def Peer.failed (p : Peer) : Bool :=
  p.state == .lost || (match p.beacon with | some b => b.serving == .dark | none => false)

/-- The station is in the cover set. -/
def State.covers (s : State) (p : Nat) : Bool := s.prc.cover.any (fun m => m.station == p)

/-- Entries of the roster in this state (R145). -/
def State.peerCount (s : State) (st : PeerState) : Nat := s.prc.roster.countP (fun e => e.state == st)

/-- PRESENT or QUIET entries whose last leg differs from this station's (R145). -/
def State.legDisagreement (s : State) : Nat :=
  s.prc.roster.countP (fun e =>
    (e.state == .present || e.state == .quiet) &&
      (match e.beacon with | some b => b.leg != s.rtk.leg | none => false))

/-- The health deadline has passed or the radio channel is LOST: the state chosen is DARK (R97, R127). -/
def State.unhealthy (s : State) : Bool := s.prc.healthDeadline.isNone || !s.rch.up

/-! ## Shore link (R102, R103, R106, R114, R121) -/

/-- The station's own link id (R187). -/
def State.ownLink (s : State) : Nat := s.cfg.straps.linkId

/-- The station's own LINK row (R101). -/
def State.ownLinkRow (s : State) : LinkRow := s.tbl.links.getD s.ownLink .zero

/-- The in-step run N, any N below 2 taken as 2 (R101). -/
def State.inStepRun (s : State) : Nat := max 2 s.ownLinkRow.run

/-- Wanted by the plan: the own link is the plan link or the next one (R102, first condition). -/
def State.wantedByPlan (s : State) : Bool :=
  s.ownLink != 0 && (s.ownLink == s.rtk.planLink || s.ownLink == s.rtk.nextPlanLink)

/-- Wanted (R102); the fallback condition is taken as not holding in STARTING. -/
def State.wanted (s : State) : Bool :=
  s.wantedByPlan ||
    (s.ownLink != 0 && s.ownLink == s.tbl.route.fallback && s.slc.view.isNone && s.prc.serving != .starting)

/-- A peer shows the link in STANDBY: PRESENT or QUIET, its last beacon of that link and phase (R103). -/
def Peer.standbyOn (link : Nat) (p : Peer) : Bool :=
  (p.state == .present || p.state == .quiet) &&
    (match p.beacon with | some b => b.linkId == link && b.phase == .standby | none => false)

/-- The link is known in STANDBY (R103). -/
def State.knownStandby (s : State) (link : Nat) : Bool :=
  (s.slc.phase == .standby && s.ownLink == link) || s.prc.roster.any (Peer.standbyOn link)

/-- The fallback link is known in STANDBY; a fallback of 0 never is (R103). -/
def State.fallbackKnown (s : State) : Bool :=
  s.tbl.route.fallback != 0 && s.knownStandby s.tbl.route.fallback

/-- The lowest link id known in STANDBY, if any (R103). -/
def State.lowestStandby (s : State) : Option Nat := (List.range 8).find? s.knownStandby

/-- The carrier view holds this link id, whichever station it names. -/
def State.viewHolds (s : State) (link : Nat) : Bool :=
  match s.slc.view with
  | some c => c.link == link
  | none => false

/-- The carry condition (R106). -/
def State.carryCondition (s : State) : Bool :=
  s.slc.phase == .standby &&
    ((s.ownLink == s.rtk.planLink && !s.viewHolds s.ownLink) ||
     (s.slc.view.isNone && s.prc.serving != .starting &&
       (s.ownLink == s.tbl.route.fallback || (!s.fallbackKnown && s.lowestStandby == some s.ownLink))))

/-- The first carrier ranks above the second under this plan link (R114). -/
def outranks (plan : Nat) (a b : Carrier) : Bool :=
  if (a.link == plan) != (b.link == plan) then a.link == plan
  else if a.link ≠ b.link then a.link < b.link
  else a.station < b.station

/-- The view names this station. -/
def State.viewNames (s : State) (p : Nat) : Bool :=
  match s.slc.view with
  | some c => c.station == p
  | none => false

/-- The data gate: a carrier is known and the shore hold is clear (R121). -/
def State.gateCondition (s : State) : Bool := s.slc.view.isSome && !s.slc.shoreHold

/-- A phase in which the terminal is activated: any but OFF, FAILED and NONE (R111). -/
def activatedPhase : Phase → Bool
  | .settling | .probing | .standby | .carrying | .draining => true
  | .none | .off | .failed => false

end Sys2Proof.Machine
end

