-- ==== Sys2Proof/Machine/Rating.lean ====
section
/-! DEFINITION. The rating engine (chapter 2): the arithmetic of one rating, and the rating of the entry in a slot. -/

namespace Sys2Proof.Machine

/-- The prices one rating reads once at its start: the tariff row and the surcharge (R24, R26). -/
structure Prices where
  dataPrice  : Nat
  dataInc    : Nat
  voicePrice : Nat
  voiceInc   : Nat
  surcharge  : Nat
deriving DecidableEq, Repr

/-- A d or t of 0 is taken as 1 (R24). -/
def orOne (n : Nat) : Nat := if n = 0 then 1 else n

/-- A surcharge below 32 is taken as 64 (R26). -/
def surchargeOf (f : Nat) : Nat := if f < 32 then 64 else f

/-- The prices of a rating pair for an entry's partner row: TARIFF row 4 · zone + class, and the surcharge of the
link's row (R24, R26). -/
def State.prices (s : State) (zone link partner : Nat) : Prices :=
  let row := s.tbl.tariffs.getD (4 * zone + (s.partnerRow partner).cls) .zero
  ⟨row.dataPrice, orOne row.dataInc, row.voicePrice, orOne row.voiceInc,
    surchargeOf (s.tbl.links.getD link .zero).surcharge⟩

/-- What the arithmetic of one meter gives (Table 2.2). -/
structure MeterRating where
  sold    : Nat
  left    : Nat
  charge  : Nat
  residue : Nat
deriving DecidableEq, Repr

/-- Units sold: whole increments, and at a final rating a remainder above 0 as one more (R34, R36). -/
def unitsSold (final : Bool) (inc meter : Nat) : Nat :=
  if final && meter % inc != 0 then meter / inc + 1 else meter / inc

/-- The arithmetic of one meter with increment `inc`, price `price`, surcharge `f` and divisor `div` (R34 to R37). -/
def rateMeter (final : Bool) (inc price f div meter residue : Nat) : MeterRating :=
  let sold := unitsSold final inc meter * inc
  let numerator := sold * price * f
  let sum := residue + numerator % div
  let carried := numerator / div + (if div ≤ sum then 1 else 0)
  let residue' := if div ≤ sum then sum - div else sum
  if final then ⟨sold, 0, carried + (if div / 2 ≤ residue' then 1 else 0), 0⟩
  else ⟨sold, meter % inc, carried, residue'⟩

/-- Apply a charge against the ceiling E: what fits is added to K and to the interval charge, the rest is forgiven; an
ACTIVE entry whose K reaches a non-zero C becomes BARRED (R39, R40). The interval charge stops at the ceiling of its
field (R2; assumption 13, DEDUCED). -/
def Entry.applyCharge (c : Nat) (e : Entry) : Entry :=
  let added := min c (ceilingOf e.cap - e.k)
  let bars := e.state == .active && Machine.capReached e.cap (e.k + added)
  { e with
    k := e.k + added
    charge := satAdd Config.maxCharge e.charge added
    forgiven := satAdd Config.maxCharge e.forgiven (c - added)
    saturated := e.saturated || Config.maxCharge < e.forgiven + (c - added)
    state := if bars then .barred else e.state
    barredIn := e.barredIn || bars }

/-- The billed volumes of a rating join the interval, each saturating (R38). -/
def Entry.addVolumes (data voice : Nat) (e : Entry) : Entry :=
  { e with
    data := satAdd Config.maxCharge e.data data
    voice := satAdd Config.maxCharge e.voice voice
    saturated := e.saturated || Config.maxCharge < e.data + data || Config.maxCharge < e.voice + voice }

/-- One rating of an entry, whole (R27): both meters, then the sum of the charges applied once. -/
def Entry.rate (final : Bool) (p : Prices) (e : Entry) : Entry :=
  let d := rateMeter final p.dataInc p.dataPrice p.surcharge Config.dataDivisor e.unratedData e.dataResidue
  let v := rateMeter final p.voiceInc p.voicePrice p.surcharge Config.voiceDivisor e.unratedVoice e.voiceResidue
  Entry.applyCharge (d.charge + v.charge)
    (Entry.addVolumes d.sold v.sold
      { e with
        unratedData := d.left, unratedVoice := v.left
        dataResidue := d.residue, voiceResidue := v.residue })

/-- The entry was ACTIVE before and is BARRED after: BAR is due (R13). -/
def becameBarred (before after : Entry) : Bool := before.state == .active && after.state == .barred

/-- Rate the entry in slot `i` under a pair; on barring, BAR is queued, except at the closes of a warm restart
(`quiet`; R13, R23, R40). -/
def rateSlot (final quiet : Bool) (zone link i : Nat) (s : State) : State :=
  match s.slot i with
  | .opened e =>
    let e' := e.rate final (s.prices zone link e.partner)
    let s1 := s.setSlot i (.opened e')
    if becameBarred e e' && !quiet then queueRadio (.bar e.key) s1 else s1
  | _ => s

end Sys2Proof.Machine
end

