-- ==== Sys2Proof/Machine/Billing.lean ====
section
/-! DEFINITION. Billing records and their offering to the store (R65 to R72), room in the store (R19), and the rating
events that rate several entries (R27 to R32). -/

namespace Sys2Proof.Machine

/-- The record of an entry's interval as the rating has left it (R65, R66). -/
def State.buildRecord (s : State) (cause : Cause) (e : Entry) : Record :=
  { key := e.key, station := s.own, voyage := s.rtk.voyage, cause := cause, zone := e.zone, link := e.link
    data := e.data, voice := e.voice, charge := e.charge, kAfter := e.k, mixed := e.mixed
    saturated := e.saturated, barredIn := e.barredIn, forgiven := e.forgiven
    overrunData := e.overrunData, overrunVoice := e.overrunVoice }

/-- A new interval opens for an entry under the zone and rating link now held (R3). -/
def State.openInterval (s : State) (e : Entry) : Entry :=
  { e with
    start := s.timebase, data := 0, voice := 0, charge := 0, forgiven := 0, overrunData := 0, overrunVoice := 0
    saturated := false, mixed := false, barredIn := e.state == .barred
    zone := s.rtk.zone, link := s.slc.ratingLink }

/-- A record enters the store: it takes the next sequence number and joins the tail (R72). -/
def storeRecord (r : Record) (s : State) : State :=
  { s with bsd := { s.bsd with
      store := s.bsd.store ++ [⟨s.bsd.nextSequence, r⟩]
      nextSequence := wrapInc Config.maxCount s.bsd.nextSequence } }

/-- An interval record offered now is taken (R69). -/
def State.takesInterval (s : State) : Bool :=
  s.bsd.store.length ≤ Config.intervalRoom && s.sub.closingOrder.isEmpty

/-- A final record offered now is taken (R17, R71). -/
def State.takesFinal (s : State) : Bool :=
  s.bsd.store.length < Config.storePlaces && s.sub.closingOrder.isEmpty

/-- A change of zone or rating link: its deferral sets MIXED (R70). -/
def Cause.changesPair : Cause → Bool
  | .zone | .link => true
  | _ => false

/-- The interval of slot `i` is ended by an interval cause: its record is taken and a new interval opened, or none is
made and a new interval opened (R67), or it is deferred, MIXED at a change of zone or link (R69, R70). -/
def offerInterval (cause : Cause) (i : Nat) (s : State) : State :=
  match s.slot i with
  | .opened e =>
    if e.hasContent then
      if s.takesInterval then
        (storeRecord (s.buildRecord cause e) s).setSlot i (.opened (s.openInterval e))
      else if cause.changesPair then s.setSlot i (.opened { e with mixed := true })
      else s
    else s.setSlot i (.opened (s.openInterval e))
  | _ => s

/-- A record-making rating of slot `i` under a pair (R27, Table 2.1). -/
def recordRating (cause : Cause) (zone link i : Nat) (s : State) : State :=
  offerInterval cause i (rateSlot false false zone link i s)

/-- Rate every open entry in attach order, each whole with its record before the next (R27). -/
def ratingEvent (cause : Cause) (zone link : Nat) (s : State) : State :=
  s.sub.attachOrder.foldl (fun t i => recordRating cause zone link i t) s

/-- The open interval of slot `i` is 900 s old or older (R28, R30). -/
def State.intervalDue (s : State) (i : Nat) : Bool :=
  match s.slot i with
  | .opened e => Config.intervalAge ≤ s.timebase - e.start
  | _ => false

/-- An INTERVAL event for slot `i` where its interval is old enough (R30). -/
def intervalCheck (i : Nat) (s : State) : State :=
  if s.intervalDue i then recordRating .interval s.rtk.zone s.slc.ratingLink i s else s

/-- The INTERVAL check of every open entry, in attach order (R30, R129). -/
def intervalChecks (s : State) : State := s.sub.attachOrder.foldl (fun t i => intervalCheck i t) s

/-- The record of the CLOSING slot `i` enters the store; the slot becomes FREE and leaves the closing order (R19). -/
def moveClosing (i : Nat) (s : State) : State :=
  let s1 := { s with sub := { s.sub with closingOrder := s.sub.closingOrder.erase i } }
  match s1.slot i with
  | .closing r => storeRecord r (s1.setSlot i .free)
  | _ => s1

/-- Move records from the head of this closing order while the store holds fewer than 64 (R19). -/
def moveWhileRoom : List Nat → State → State
  | [], s => s
  | i :: rest, s =>
    if s.bsd.store.length < Config.storePlaces then moveWhileRoom rest (moveClosing i s) else s

/-- Room has appeared in the store (R19). -/
def storeRoom (s : State) : State := moveWhileRoom s.sub.closingOrder s

/-! ## Drain (R74 to R77) -/

/-- Offer the head of the store as a BILL while RUNNING, with a record stored and no BILL pending (R75). -/
def offerBill (s : State) : State :=
  match s.bsd.drain, s.bsd.store, s.dbi.bill with
  | .running _ _, r :: _, none => placeBill r s
  | _, _, _ => s

/-- The drain ends: DRAIN-END is queued with the voyage and tally as they stand, and the state is ENDING (R77). -/
def endDrain (status : StopStatus) (sent : Nat) (s : State) : State :=
  placeDrainEnd ⟨status, sent, s.rtk.voyage, s.bsd.tallyWord, s.bsd.tallyCount⟩
    { s with bsd := { s.bsd with drain := .ending sent none } }

/-- A drain begins with this count: it ends at once where the store is empty (R74). -/
def beginDrain (count : Nat) (s : State) : State :=
  let s1 := { s with bsd := { s.bsd with drain := .running count 0 } }
  if s.bsd.store.isEmpty then endDrain .storeEmpty 0 s1 else offerBill s1

/-- A DRAIN-REQUEST for this station, by drain state (R74). -/
def requestDrain (count : Nat) (s : State) : State :=
  match s.bsd.drain with
  | .idle => beginDrain count s
  | .running _ sent => offerBill { s with bsd := { s.bsd with drain := .running count sent } }
  | .ending sent _ => { s with bsd := { s.bsd with drain := .ending sent (some count) } }

/-- After a BILL is sent: the drain ends or goes on with the new head (R77). -/
def continueDrain (s : State) : State :=
  match s.bsd.drain with
  | .running 0 sent => endDrain .countDone sent s
  | .running _ sent => if s.bsd.store.isEmpty then endDrain .storeEmpty sent s else offerBill s
  | _ => s

/-- The drain's counts after one more BILL (R76). -/
def Drain.billSent : Drain → Drain
  | .running remaining sent => .running (remaining - 1) (satInc Config.maxSent sent)
  | d => d

/-- A DRAIN-END is sent: IDLE, and a waiting count begins a drain at once (R77). -/
def drainEndSent (s : State) : State :=
  match s.bsd.drain with
  | .ending _ waiting =>
    let s1 := { s with bsd := { s.bsd with drain := .idle } }
    match waiting with
    | none => s1
    | some n => beginDrain n s1
  | _ => s

end Sys2Proof.Machine
end

