-- ==== Sys2Proof/Machine/Subscriber.lean ====
section
/-! DEFINITION. The subscriber table and the departure list: closing (R16, R17, R20), admission (R6 to R9), usage
(R10, R11, R28), the partner re-check (R15), and the meanings of the commands that reach them. -/

namespace Sys2Proof.Machine

/-! ## The departure list (section 3.4) -/

/-- A departure joins the tail of a list: an older one of the same key leaves it first, and a list full of other keys
drops its head; the flag says whether one was dropped (R58, R59). -/
def joinDepartures (d : Departure) (l : List Departure) : List Departure × Bool :=
  let others := l.filter (fun x => x.key != d.key)
  if Config.departurePlaces ≤ others.length then (others.drop 1 ++ [d], true) else (others ++ [d], false)

/-- A closed entry's key joins the departure list (R58, R59). -/
def departureJoin (e : Entry) (s : State) : State :=
  let r := joinDepartures ⟨e.key, e.k, e.capReached, s.timebase⟩ s.hov.departures
  { s with hov := { s.hov with
      departures := r.1
      departureDrops := if r.2 then satInc Config.maxCount s.hov.departureDrops else s.hov.departureDrops } }

/-- The departure list's entry for a key. -/
def State.departed? (s : State) (key : Nat) : Option Departure := s.hov.departures.find? (fun d => d.key == key)

/-- A key's entry leaves the departure list (R61). -/
def forgetDeparture (key : Nat) (s : State) : State :=
  { s with hov := { s.hov with departures := s.hov.departures.filter (fun d => d.key != key) } }

/-! ## Closing -/

/-- Causes that put the key into the departure list (Table 1.5). -/
def Cause.departs : Cause → Bool
  | .detach | .dormant | .evict | .orphan => true
  | _ => false

/-- Causes at which RELEASE-SUB is sent (Table 1.5). -/
def Cause.releasesSub : Cause → Bool
  | .handover | .dormant | .evict | .withdrawn => true
  | _ => false

/-- The final record of slot `i` is offered: taken and the slot FREE, or refused and the slot CLOSING (R17). -/
def offerFinal (r : Record) (i : Nat) (s : State) : State :=
  if s.takesFinal then (storeRecord r s).setSlot i .free
  else
    let s1 := s.setSlot i (.closing r)
    { s1 with sub := { s1.sub with closingOrder := s1.sub.closingOrder ++ [i] } }

/-- The steps of a close after its final rating: the record is built, the entry leaves the attach order, its key departs
and RELEASE-SUB goes where Table 1.5 says so, and the record is offered (R16). `quiet` is a warm restart's close, which
sends no directive (R23). -/
def finishClose (cause : Cause) (quiet : Bool) (i : Nat) (s : State) : State :=
  match s.slot i with
  | .opened e =>
    let r := s.buildRecord cause e
    let s1 := { s with sub := { s.sub with attachOrder := s.sub.attachOrder.erase i } }
    let s2 := if cause.departs then departureJoin e s1 else s1
    let s3 := if cause.releasesSub && !quiet then queueRadio (.releaseSub e.key) s2 else s2
    if e.hasContent then offerFinal r i s3 else s3.setSlot i .free
  | _ => s

/-- Close the open entry of slot `i` (R16): its final rating under the present pair (R33), then the other steps. -/
def closeSlot (cause : Cause) (quiet : Bool) (i : Nat) (s : State) : State :=
  finishClose cause quiet i (rateSlot true quiet s.rtk.zone s.slc.ratingLink i s)

/-- A sweep closes slots one after another, each close whole before the next (R20). -/
def closeAll (cause : Cause) (quiet : Bool) (slots : List Nat) (s : State) : State :=
  slots.foldl (fun t i => closeSlot cause quiet i t) s

/-- A sweep of every open entry, in attach order (R20). -/
def sweep (cause : Cause) (quiet : Bool) (s : State) : State := closeAll cause quiet s.sub.attachOrder s

/-! ## Re-check of partners (R15, R89) -/

/-- The entry in slot `i` fails the partner re-check against the current zone (R15). -/
def State.failsRecheck (s : State) (i : Nat) : Bool :=
  match s.slot i with
  | .opened e => (s.partnerRow e.partner).fails s.rtk.zone
  | _ => false

/-- The entry in slot `i` is held under PARTNER row `row`. -/
def State.onPartner (s : State) (row i : Nat) : Bool :=
  match s.slot i with
  | .opened e => e.partner == row
  | _ => false

/-- The re-check at a write of a PARTNER row: entries on it that fail are closed WITHDRAWN in attach order (R15). -/
def recheckRow (row : Nat) (s : State) : State :=
  closeAll .withdrawn false (s.sub.attachOrder.filter (fun i => s.onPartner row i && s.failsRecheck i)) s

/-- The re-check of every open entry at a zone change (R89, third step). -/
def recheckAll (s : State) : State :=
  closeAll .withdrawn false (s.sub.attachOrder.filter s.failsRecheck) s

/-! ## Admission -/

/-- K restored at admission from a departure list entry (R9). -/
def restoredK (cap : Nat) (d : Option Departure) : Nat :=
  match d with
  | none => 0
  | some d => if d.capReached && cap != 0 then cap else min d.charge (ceilingOf cap)

/-- The new entry of an admission, its first interval open (R9, R3). -/
def State.newEntry (s : State) (key partner : Nat) (grant : Services) : Entry :=
  let cap := (s.partnerRow partner).cap
  let k := restoredK cap (s.departed? key)
  s.openInterval
    { key := key, state := if capReached cap k then .barred else .active, partner := partner, grant := grant
      k := k, cap := cap, unratedData := 0, unratedVoice := 0, dataResidue := 0, voiceResidue := 0
      start := 0, data := 0, voice := 0, charge := 0, forgiven := 0, overrunData := 0, overrunVoice := 0
      saturated := false, barredIn := false, mixed := false, zone := 0, link := 0, claimPending := true }

/-- The directive that answers an ATTACH for an entry: ADMIT with the admission mask, or BAR (R6, R9). -/
def State.answer (s : State) (e : Entry) : RadioDirective :=
  match e.state with
  | .active => .admitSub e.key (s.mask e.grant)
  | .barred => .bar e.key

/-- A CLAIM for a new entry's key is queued, unless the key is already pending (R47). -/
def queueClaim (key : Nat) (s : State) : State :=
  if s.hov.pendingClaims.contains key then s
  else offerClaim key { s with hov := { s.hov with pendingClaims := s.hov.pendingClaims ++ [key] } }

/-- A new entry in slot `i` (R9): the entry, the departure list, the attach order, the answer, the CLAIM. -/
def admitInto (i key partner : Nat) (grant : Services) (s : State) : State :=
  let e := s.newEntry key partner grant
  let s1 := forgetDeparture key (s.setSlot i (.opened e))
  let s2 := { s1 with sub := { s1.sub with attachOrder := s1.sub.attachOrder ++ [i] } }
  queueClaim key (queueRadio (s2.answer e) s2)

/-- The entry in slot `i` is BARRED. -/
def State.isBarred (s : State) (i : Nat) : Bool :=
  match s.slot i with
  | .opened e => e.state == .barred
  | _ => false

/-- The oldest BARRED entry in attach order (R8). -/
def State.oldestBarred (s : State) : Option Nat := s.sub.attachOrder.find? s.isBarred

/-- REFUSE (Table 1.4): nothing else changes. -/
def refuse (key : Nat) (reason : RefuseReason) (s : State) : State := queueRadio (.refuse key reason) s

/-- A slot is found and the entry made; with none FREE the oldest BARRED entry is evicted where the store has room,
else TABLE_FULL (R8, R9). -/
def admitNew (key partner : Nat) (grant : Services) (s : State) : State :=
  match s.firstFree with
  | some i => admitInto i key partner grant s
  | none =>
    match s.oldestBarred with
    | none => refuse key .tableFull s
    | some b =>
      if s.bsd.store.length < Config.storePlaces then
        let s1 := closeSlot .evict false b s
        match s1.firstFree with
        | some i => admitInto i key partner grant s1
        | none => refuse key .tableFull s1
      else refuse key .tableFull s

/-- The partner checks for a key that is not open (R7), then the slot (R8). -/
def admitChecked (key home : Nat) (requested : Services) (s : State) : State :=
  match s.findPartner home with
  | none => refuse key .noPartner s
  | some r =>
    let row := s.partnerRow r
    if row.suspended then refuse key .suspended s
    else if !row.permits s.rtk.zone then refuse key .zoneNotPermitted s
    else if noServices (commonServices requested row.services) then refuse key .noService s
    else admitNew key r (commonServices requested row.services) s

/-- An ATTACH: the admission checks in the order of Table 1.4 (R6). -/
def attach (key home : Nat) (requested : Services) (s : State) : State :=
  if s.prc.serving != .serving || s.listenOnly then refuse key .notServing s
  else if key = 0 then refuse 0 .malformed s
  else
    match s.findOpen key with
    | none => admitChecked key home requested s
    | some i =>
      match s.entry? i with
      | some e => queueRadio (s.answer e) s
      | none => s

/-! ## Usage -/

/-- The increments of a USAGE added to the unrated meters of an ACTIVE entry (R10). -/
def Entry.addUsage (data voice : Nat) (e : Entry) : Entry :=
  { e with
    unratedData := satAdd Config.maxUnratedData e.unratedData data
    unratedVoice := satAdd Config.maxUnratedVoice e.unratedVoice voice
    saturated := e.saturated || Config.maxUnratedData < e.unratedData + data ||
      Config.maxUnratedVoice < e.unratedVoice + voice }

/-- The increments of a USAGE added to the overrun of a BARRED entry (R11). -/
def Entry.addOverrun (data voice : Nat) (e : Entry) : Entry :=
  { e with
    overrunData := satAdd Config.maxCharge e.overrunData data
    overrunVoice := satAdd Config.maxCharge e.overrunVoice voice
    saturated := e.saturated || Config.maxCharge < e.overrunData + data ||
      Config.maxCharge < e.overrunVoice + voice }

/-- The increments of a USAGE added by the entry's state (R10, R11). -/
def Entry.takeUsage (data voice : Nat) (e : Entry) : Entry :=
  match e.state with
  | .active => e.addUsage data voice
  | .barred => e.addOverrun data voice

/-- Unrated usage enough for an interim rating of an ACTIVE entry (R28). -/
def Entry.interimDue (e : Entry) : Bool :=
  e.state == .active && (Config.interimData ≤ e.unratedData || Config.interimVoice ≤ e.unratedVoice)

/-- The entry in slot `i` is due for an interim rating (R28). -/
def State.interimDue (s : State) (i : Nat) : Bool :=
  match s.slot i with
  | .opened e => e.interimDue
  | _ => false

/-- The checks after a USAGE: the age of the interval first, else the interim rating (R28, R29). -/
def usageChecks (i : Nat) (s : State) : State :=
  if s.intervalDue i then recordRating .interval s.rtk.zone s.slc.ratingLink i s
  else if s.interimDue i then rateSlot false false s.rtk.zone s.slc.ratingLink i s
  else s

/-- A USAGE for a key (R10, R11, R28). -/
def takeUsage (key data voice : Nat) (s : State) : State :=
  match s.findOpen key with
  | none => { s with sub := { s.sub with unknownUsage := satInc Config.maxCount s.sub.unknownUsage } }
  | some i => usageChecks i (s.updateEntry i (Entry.takeUsage data (clampVoice voice)))

/-- A DETACH for a key (R12). -/
def takeDetach (key : Nat) (s : State) : State :=
  match s.findOpen key with
  | none => s
  | some i => closeSlot .detach false i s

/-! ## Voyage start (R79) -/

/-- K of every open entry becomes 0 (R79, third step). -/
def Slot.zeroK : Slot → Slot
  | .opened e => .opened { e with k := 0 }
  | x => x

/-- A BARRED entry of slot `i` becomes ACTIVE and UNBAR is sent (R14). -/
def unbar (i : Nat) (s : State) : State :=
  match s.slot i with
  | .opened e =>
    match e.state with
    | .barred => queueRadio (.unbar e.key) (s.setSlot i (.opened { e with state := .active }))
    | .active => s
  | _ => s

/-- The six steps of a voyage start; the leg evaluation follows them (R79, R84). -/
def voyageStart (s : State) : State :=
  let s1 := ratingEvent .voyage s.rtk.zone s.slc.ratingLink s
  let s2 := { s1 with rtk := { s1.rtk with voyage := wrapInc Config.maxVoyage s1.rtk.voyage, leg := 0 } }
  let s3 := { s2 with sub := { s2.sub with slots := s2.sub.slots.map Slot.zeroK } }
  let s4 := s3.sub.attachOrder.foldl (fun t i => unbar i t) s3
  { s4 with
    hov := { s4.hov with departures := [] }
    bsd := { s4.bsd with tallyWord := 0, tallyCount := 0 } }

end Sys2Proof.Machine
end

