-- ==== Sys2Proof/Machine/ShoreLink.lean ====
section
/-! DEFINITION. Shore link control (chapter 6): the phase machine, the carrier view with its rating link, shore hold
and data gate, and the meanings of the commands that only it takes. -/

namespace Sys2Proof.Machine

/-! ## Announcements and phases -/

/-- Queue a LINK frame with the hold flag as it stands (R112, R113). -/
def announce (a : Announce) (s : State) : State := offerLink ⟨s.ownLink, s.slc.hold, a⟩ s

/-- Mark the station activated or not (Table 6.1). -/
def setActivated (b : Bool) (s : State) : State := { s with slc := { s.slc with activated := b } }

/-- DEACTIVATE is queued and the station is marked not activated. -/
def deactivate (s : State) : State := setActivated false (queueTerminal .deactivate s)

/-- Entry into FAILED (R111): settle, drain and run state dropped, DEACTIVATE, LINK DOWN marked failed, retry timer. -/
def enterFailed (s : State) : State :=
  let s1 := { s with slc := { s.slc with
    phase := .failed, settleAt := none, drainAt := none, runCount := 0
    retryAt := some (s.timebase + Config.retryTime) } }
  announce (.down true) (deactivate s1)

/-- The settle timer has run out: PROBING with run count 0 where the terminal channel is UP, else FAILED (R105). -/
def settled (s : State) : State :=
  let s1 := { s with slc := { s.slc with settleAt := none } }
  if s.tch.up then { s1 with slc := { s1.slc with phase := .probing, runCount := 0 } } else enterFailed s1

/-- ACTIVATE is queued, the terminal's silence time starts afresh, and SETTLING is entered with the settle time of the
own link row; a settle time of 0 ends it in the same event (R101, R104, R105, R179). -/
def activate (s : State) : State :=
  let s1 := setActivated true (queueTerminal .activate s)
  let s2 := { s1 with
    tch := { s1.tch with silenceFrom := some s1.timebase }
    slc := { s1.slc with phase := .settling, settleAt := some (s1.timebase + s1.ownLinkRow.settleTime) } }
  if s.ownLinkRow.settleTime = 0 then settled s2 else s2

/-- Entry into OFF, which a wanted link leaves again at once (R102, R104). -/
def enterOff (s : State) : State :=
  let s1 := { s with slc := { s.slc with
    phase := .off, settleAt := none, drainAt := none, retryAt := none, runCount := 0 } }
  if s1.wanted then activate s1 else s1

/-- A link no longer wanted is let go: DEACTIVATE, then OFF (R105, R106). -/
def letGo (s : State) : State := enterOff (deactivate s)

/-- Entry into CARRYING (R107). -/
def enterCarrying (s : State) : State :=
  let s1 := queueTerminal .carryOn s
  announce .carry { s1 with slc := { s1.slc with phase := .carrying, belowFloor := 0 } }

/-- Entry into DRAINING (R110). -/
def enterDraining (s : State) : State :=
  let s1 := queueTerminal .carryOff s
  announce .drain { s1 with slc := { s1.slc with
    phase := .draining, drainAt := some (s1.timebase + Config.drainTime) } }

/-- The drain has ended: DEACTIVATE, LINK DOWN not marked failed, OFF (R110). -/
def linkDrained (s : State) : State := enterOff (announce (.down false) (deactivate s))

/-- The evaluation in STANDBY: wanted first, then the carry condition (R106). -/
def evaluateStandby (s : State) : State :=
  if s.slc.phase = .standby then
    if !s.wanted then letGo s
    else if s.carryCondition then enterCarrying s
    else s
  else s

/-- The evaluation of the wanted condition, and in STANDBY of the carry condition (R102, R106). -/
def evaluate (s : State) : State :=
  if s.isTerminal then
    match s.slc.phase with
    | .off => if s.wanted then activate s else s
    | .settling => if s.wanted then s else letGo s
    | .probing => if s.wanted then s else letGo s
    | .standby => evaluateStandby s
    | .none => s
    | .carrying => s
    | .draining => s
    | .failed => s
  else s

/-! ## The carrier view -/

/-- The data gate is evaluated; DATA-GATE is queued where it changed (R121). -/
def evaluateGate (s : State) : State :=
  if s.gateCondition = s.slc.gateOpen then s
  else queueRadio (.dataGate s.gateCondition) { s with slc := { s.slc with gateOpen := s.gateCondition } }

/-- The rating link takes the carrier's link id; a change is a LINK event, rated under the outgoing link (R120, R31). -/
def updateRatingLink (link : Nat) (s : State) : State :=
  if s.slc.ratingLink = link then s
  else ratingEvent .link s.rtk.zone s.slc.ratingLink { s with slc := { s.slc with ratingLink := link } }

/-- The carrier that a view holds once `new` is offered to it (R117). -/
def chosenCarrier (plan : Nat) (old : Option Carrier) (new : Carrier) : Carrier :=
  match old with
  | none => new
  | some c => if c.station = new.station then new else if outranks plan new c then new else c

/-- The shore hold is taken from a frame of the carrier (R119). -/
def takeShoreHold (hold : Bool) (s : State) : State := { s with slc := { s.slc with shoreHold := hold } }

/-- A carrier is offered by a LINK CARRY or a carrying beacon (R117); at a change of the view the steps of R115 follow in
order, else only the shore hold of a carrier in place is taken (R119). -/
def offerCarrier (new : Carrier) (hold : Bool) (s : State) : State :=
  let chosen := chosenCarrier s.rtk.planLink s.slc.view new
  if s.slc.view = some chosen then
    if chosen.station = new.station then evaluateGate (takeShoreHold hold s) else s
  else
    evaluate (evaluateGate (takeShoreHold hold
      (updateRatingLink chosen.link { s with slc := { s.slc with view := some chosen } })))

/-- The view is cleared: shore hold clear, gate closed, conditions evaluated; the rating link stays (R118, R115). -/
def clearView (s : State) : State :=
  evaluate (evaluateGate { s with slc := { s.slc with view := none, shoreHold := false } })

/-- The view is cleared where it names this station (R118). -/
def clearViewOf (station : Nat) (s : State) : State := if s.viewNames station then clearView s else s

/-- A CARRYING station that hears another carrier of higher rank drains (R109). -/
def yieldTo (other : Carrier) (s : State) : State :=
  if s.slc.phase = .carrying && other.station != s.own && outranks s.rtk.planLink other ⟨s.own, s.ownLink⟩ then
    enterDraining s
  else s

/-- A LINK CARRY or a carrying beacon of a station (R109, R117). -/
def hearCarrying (other : Carrier) (hold : Bool) (s : State) : State := yieldTo other (offerCarrier other hold s)

/-- A LINK frame as shore link control takes it (R117, R118). -/
def takeLink (sender : Nat) (m : LinkMsg) (s : State) : State :=
  match m.announce with
  | .carry => hearCarrying ⟨sender, m.linkId⟩ m.hold s
  | .drain => clearViewOf sender s
  | .down _ => clearViewOf sender s

/-- A beacon as shore link control takes it (R117, R118). -/
def takeBeaconLink (sender : Nat) (m : BeaconMsg) (s : State) : State :=
  if m.phase = .carrying then hearCarrying ⟨sender, m.linkId⟩ m.hold s else clearViewOf sender s

/-! ## The terminal's messages (R105, R108, R110 to R112) -/

/-- An activated phase goes to FAILED at the loss of the terminal (R111). -/
def failActivated (s : State) : State :=
  if activatedPhase s.slc.phase then enterFailed s else s

/-- A QUALITY report by phase (R105, R108). The run count stays as it is in STANDBY, CARRYING and DRAINING, where the manual
gives it no value (assumption 33, DESIGN CHOICE). -/
def takeQuality (score : Nat) (s : State) : State :=
  match s.slc.phase with
  | .probing =>
    if s.ownLinkRow.threshold ≤ score then
      let run := satInc Config.maxRun s.slc.runCount
      let s1 := { s with slc := { s.slc with runCount := run } }
      if s.inStepRun ≤ run then evaluateStandby { s1 with slc := { s1.slc with phase := .standby } } else s1
    else { s with slc := { s.slc with runCount := 0 } }
  | .carrying =>
    if score < s.ownLinkRow.floor then
      let s1 := { s with slc := { s.slc with belowFloor := satInc Config.degradeCount s.slc.belowFloor } }
      if Config.degradeCount ≤ s1.slc.belowFloor then enterFailed s1 else s1
    else { s with slc := { s.slc with belowFloor := 0 } }
  | _ => s

/-- The terminal's hold line changed: the hold flag follows, and while CARRYING a LINK CARRY is queued (R112). -/
def takeTerminalHold (asserted : Bool) (s : State) : State :=
  if s.slc.hold = asserted then s
  else
    let s1 := { s with slc := { s.slc with hold := asserted } }
    if s.slc.phase = .carrying then announce .carry s1 else s1

end Sys2Proof.Machine
end

