-- ==== Sys2Proof/Machine/Coverage.lean ====
section
/-! DEFINITION. Peer roster and coverage (chapter 7) with dormancy and wake (section 5.5): what a change of a roster
entry, of the radio head's health or of the serving state brings about. -/

namespace Sys2Proof.Machine

/-! ## The cover set (R133 to R136) -/

/-- A station joins the tail of the cover set, with COVER on (R133). -/
def addCover (p : Nat) (s : State) : State :=
  queueRadio (.cover p true) { s with prc := { s.prc with cover := s.prc.cover ++ [⟨p, none⟩] } }

/-- A station leaves the cover set, with COVER off; the others keep their order (R134, R135). -/
def removeCover (p : Nat) (s : State) : State :=
  queueRadio (.cover p false)
    { s with prc := { s.prc with cover := s.prc.cover.filter (fun m => m.station != p) } }

/-- Set the return hold of a member (R134). -/
def setReturnHold (p : Nat) (t : Option Nat) (s : State) : State :=
  { s with prc := { s.prc with
      cover := s.prc.cover.map (fun m => if m.station = p then { m with holdUntil := t } else m) } }

/-- A return hold runs for this member. -/
def State.holdRuns (s : State) (p : Nat) : Bool :=
  s.prc.cover.any (fun m => m.station == p && m.holdUntil.isSome)

/-- The cover set is emptied, with COVER off for each member in the order they joined; the holds go with them (R136). -/
def emptyCover (s : State) : State :=
  let s1 := s.prc.cover.foldl (fun t m => queueRadio (.cover m.station false) t) s
  { s1 with prc := { s1.prc with cover := [] } }

/-- This neighbour is failed and not yet a member (R133). -/
def State.needsCover (s : State) (p : Nat) : Bool :=
  !s.covers p && (match s.peer? p with | some e => e.neighbour && e.failed | none => false)

/-- Entry into SERVING: every failed neighbour joins, in the order of the neighbour list (R133). -/
def coverFailed (s : State) : State :=
  s.cfg.neighbours.foldl (fun t p => if t.needsCover p then addCover p t else t) s

/-- The cover decision at a change of a neighbour's entry (R133, R134); `servingBeacon` says that the change is a beacon
showing SERVING. -/
def coverDecision (e : Peer) (servingBeacon : Bool) (s : State) : State :=
  if !e.neighbour then s
  else if s.covers e.station then
    if e.failed then setReturnHold e.station none s
    else if s.holdRuns e.station then s
    else if servingBeacon then setReturnHold e.station (some (s.timebase + Config.returnHold)) s
    else removeCover e.station s
  else if s.prc.serving = .serving && e.failed then addCover e.station s
  else s

/-! ## The roster (R130 to R132) -/

/-- Write a roster entry. -/
def setPeer (e : Peer) (s : State) : State :=
  { s with prc := { s.prc with roster := s.prc.roster.map (fun x => if x.station = e.station then e else x) } }

/-- The phase or link id that a peer's beacon showed (R132). -/
def Peer.shown (p : Peer) : Option (Phase × Nat) := p.beacon.map (fun b => (b.phase, b.linkId))

/-- A roster entry changes: shore link control first, which loses a LOST carrier from its view, then the cover decision
of a neighbour (R132). -/
def changePeer (old new : Peer) (viaBeacon servingBeacon : Bool) (s : State) : State :=
  let s1 := setPeer new s
  let s2 := if new.state = .lost then clearViewOf new.station s1 else s1
  let s3 := if old.state ≠ new.state || old.shown ≠ new.shown then evaluateStandby s2 else s2
  if viaBeacon || old.state ≠ new.state then coverDecision new servingBeacon s3 else s3

/-- The fields a BEACON copies into the entry (R130). -/
def copyOf (m : BeaconMsg) : BeaconCopy := ⟨m.serving, m.phase, m.linkId, m.leg⟩

/-- A frame is heard from a station: last heard, PRESENT, and a BEACON's fields (R130). A frame of the station's own
number touches no entry. A BEACON's hearing and its copying are one change of the entry (assumption 12, DEDUCED). -/
def heardFrom (sender : Nat) (beacon : Option BeaconMsg) (s : State) : State :=
  if sender = s.own then s
  else
    match s.peer? sender with
    | none => s
    | some old =>
      let new := { old with
        state := .present, lastHeard := some s.timebase
        beacon := match beacon with | some m => some (copyOf m) | none => old.beacon }
      changePeer old new beacon.isSome (beacon.any (fun m => m.serving = .serving)) s

/-- A PRESENT entry becomes QUIET after 750 ms (R131). -/
def peerQuiet (p : Nat) (s : State) : State :=
  match s.peer? p with
  | none => s
  | some old =>
    if old.state = .present && elapsed old.lastHeard s.timebase Config.quietAfter then
      changePeer old { old with state := .quiet } false false s
    else s

/-- A PRESENT or QUIET entry becomes LOST after 2000 ms (R131). -/
def peerLost (p : Nat) (s : State) : State :=
  match s.peer? p with
  | none => s
  | some old =>
    if (old.state = .present || old.state = .quiet) && elapsed old.lastHeard s.timebase Config.lostAfter then
      changePeer old { old with state := .lost } false false s
    else s

/-- A member's return hold runs out: COVER off, and it leaves the cover set (R135). -/
def returnHoldExpired (p : Nat) (s : State) : State :=
  if s.prc.cover.any (fun m => m.station == p && due m.holdUntil s.timebase) then removeCover p s else s

/-! ## Serving states -/

/-- Set the serving state. -/
def setServing (v : Serving) (s : State) : State := { s with prc := { s.prc with serving := v } }

/-- IDENTITY with the current zone's code is queued (R90). -/
def sendIdentity (s : State) : State := queueRadio (.identity s.identityCode) s

/-- Entry into DORMANT (R95). -/
def enterDormant (s : State) : State :=
  let s1 := sweep .dormant false (setServing .dormant s)
  let s2 := emptyCover s1
  let s3 := { s2 with prc := { s2.prc with orphanAt := none } }
  let s4 := queueRadio .dormant s3
  { s4 with prc := { s4.prc with
      dwellUntil := some (s4.timebase + Config.dwell), pendingWake := false } }

/-- Entry into DARK (R140). -/
def enterDark (s : State) : State :=
  let s1 := emptyCover (setServing .dark s)
  { s1 with prc := { s1.prc with orphanAt := some (s1.timebase + Config.orphanTime) } }

/-- The state a wake or a listen period's end chooses: DARK, its orphan timer started, or SERVING (R97, R127, R141). -/
def chooseState (s : State) : State :=
  if s.unhealthy then
    { s with prc := { s.prc with
        serving := .dark, orphanAt := some (s.timebase + Config.orphanTime) } }
  else setServing .serving s

/-- A station that has become SERVING makes the cover decision at once (R127, R133). -/
def coverIfServing (s : State) : State := if s.prc.serving = .serving then coverFailed s else s

/-- A wake (R97). -/
def wake (s : State) : State :=
  let s1 := sendIdentity (queueRadio .wake s)
  let s2 := { s1 with prc := { s1.prc with dwellUntil := none, pendingWake := false } }
  coverIfServing (chooseState s2)

/-- A change of the silence status is acted on (R94, R96). -/
def silenceChanged (silent : Bool) (s : State) : State :=
  let s1 := { s with rtk := { s.rtk with silent := silent } }
  if silent then
    match s.prc.serving with
    | .serving => enterDormant s1
    | .dark => enterDormant s1
    | .dormant => { s1 with prc := { s1.prc with pendingWake := false } }
    | .starting => s1
  else
    match s.prc.serving with
    | .dormant =>
      if s.prc.dwellUntil.isNone then wake s1 else { s1 with prc := { s1.prc with pendingWake := true } }
    | .serving => s1
    | .dark => s1
    | .starting => s1

/-- The dwell timer runs out (Table 5.3). -/
def dwellExpired (s : State) : State :=
  if s.prc.serving = .dormant && due s.prc.dwellUntil s.timebase then
    if s.prc.pendingWake then wake s else { s with prc := { s.prc with dwellUntil := none } }
  else s

/-- A beacon time: a BEACON is queued where none waits, and the open intervals are checked (R129, R30). -/
def beaconAt (s : State) : State := intervalChecks (offerBeacon s)

/-- The beacon schedule's next time (R129). -/
def scheduleBeacon (t : Nat) (s : State) : State :=
  { s with prc := { s.prc with nextBeacon := some (t + Config.beaconPeriod) } }

/-- The listen timer has run out (R127): the new state, IDENTITY, DATA-GATE, the beacon schedule with a beacon time at
this instant, shore link control, and the cover decision of a station that has become SERVING. -/
def leaveStarting (s : State) : State :=
  let s1 := { s with prc := { s.prc with listenUntil := none } }
  let s2 := if s.rtk.silent then enterDormant s1 else chooseState (queueRadio .wake s1)
  let s3 := sendIdentity s2
  let s4 := queueRadio (.dataGate s3.slc.gateOpen) s3
  let s5 := beaconAt (scheduleBeacon s4.timebase s4)
  coverIfServing (evaluate s5)

/-! ## Radio-head health (R137 to R142) -/

/-- HEALTH returns a DARK station to service (R142). -/
def returnFromDark (s : State) : State :=
  let s1 := { s with prc := { s.prc with orphanAt := none } }
  if s.rtk.silent then enterDormant s1 else coverFailed (setServing .serving s1)

/-- HEALTH (R137). -/
def takeHealth (s : State) : State :=
  let s1 := { s with prc := { s.prc with
    healthDeadline := some (s.timebase + Config.healthAhead), holdUsed := false, deadlineByHold := false } }
  if s.prc.serving = .dark then returnFromDark s1 else s1

/-- HOLD, granted or refused (R138). -/
def takeHold (s : State) : State :=
  if s.prc.holdUsed then
    { s with prc := { s.prc with refusedHolds := satInc Config.maxCount s.prc.refusedHolds } }
  else
    { s with prc := { s.prc with
        healthDeadline := some (s.timebase + Config.holdAhead), holdUsed := true, deadlineByHold := true } }

/-- The health deadline passes (R139, R140). -/
def deadlinePassed (s : State) : State :=
  if due s.prc.healthDeadline s.timebase then
    let s1 := { s with prc := { s.prc with healthDeadline := none } }
    if s.prc.serving = .serving then enterDark s1 else s1
  else s

/-- The loss of the radio channel, as the health rules take it (R140). -/
def radioLost (s : State) : State :=
  if s.prc.serving = .serving && !s.prc.deadlineByHold then enterDark s else s

/-- The orphan timer runs out in DARK (R141). -/
def orphanExpired (s : State) : State :=
  if s.prc.serving = .dark && due s.prc.orphanAt s.timebase then
    sweep .orphan false { s with prc := { s.prc with orphanAt := none } }
  else s

end Sys2Proof.Machine
end

