-- ==== Sys2Proof/Machine/Route.lean ====
section
/-! DEFINITION. The route tracker (chapter 5): marks, slips, the leg evaluation with its three steps, and the clamp of
the leg when the route shrinks. -/

namespace Sys2Proof.Machine

/-- A slip is counted and the slip flag set for 60 s (R86). -/
def countSlip (s : State) : State :=
  { s with rtk := { s.rtk with
      slipCount := satInc Config.maxCount s.rtk.slipCount, slipUntil := some (s.timebase + Config.slipLife) } }

/-- A zone change (R89): the new zone is held, the ZONE event rates under the outgoing zone, IDENTITY is queued, and every
open entry is re-checked. -/
def changeZone (zone : Nat) (s : State) : State :=
  let s1 := { s with rtk := { s.rtk with zone := zone } }
  recheckAll (sendIdentity (ratingEvent .zone s.rtk.zone s1.slc.ratingLink s1))

/-- The silence evaluation alone (R93). -/
def evaluateSilence (s : State) : State :=
  if s.derivedSilent = s.rtk.silent then s else silenceChanged s.derivedSilent s

/-- A new plan pair is held and handed to shore link control as one (R91). -/
def handPlan (plan next : Nat) (s : State) : State :=
  evaluate { s with rtk := { s.rtk with planLink := plan, nextPlanLink := next } }

/-- A leg evaluation: the zone, then the silence status, then the plan pair, each acted on where it differs (R88). -/
def legEvaluation (s : State) : State :=
  let s1 := if s.derivedZone = s.rtk.zone then s else changeZone s.derivedZone s
  let s2 := if s.derivedSilent = s.rtk.silent then s1 else silenceChanged s.derivedSilent s1
  if s.derivedPlan = s.rtk.planLink && s.derivedNextPlan = s.rtk.nextPlanLink then s2
  else handPlan s.derivedPlan s.derivedNextPlan s2

/-- The leg moves, with its evaluation; a mark that leaves it where it was brings about none (R85). -/
def moveLeg (leg : Nat) (s : State) : State :=
  if leg = s.rtk.leg then s else legEvaluation { s with rtk := { s.rtk with leg := leg } }

/-- A mark with the origin flag clear, the rows of Table 5.2 tried in order (R85 to R87). -/
def takeMark (leg : Nat) (s : State) : State :=
  if s.tbl.route.length = 0 then s
  else if leg = Config.unknownLeg then moveLeg s.nextLeg s
  else if s.tbl.route.length ≤ leg || Config.maxLegs ≤ leg then
    { s with rtk := { s.rtk with badMarks := satInc Config.maxCount s.rtk.badMarks } }
  else if leg = s.rtk.leg then s
  else if leg = s.nextLeg then moveLeg leg s
  else moveLeg leg (countSlip s)

/-- A mark with the origin flag set: a voyage start, then the leg evaluation (R84). -/
def takeOrigin (s : State) : State := legEvaluation (voyageStart s)

/-- The route header was written: the leg is clamped below the new L, counted as a slip, and a leg evaluation follows
(R92). -/
def headerWritten (s : State) : State :=
  let len := s.tbl.route.length
  if len ≠ 0 ∧ len ≤ s.rtk.leg then
    legEvaluation (countSlip { s with rtk := { s.rtk with leg := len - 1 } })
  else if len = 0 ∧ s.rtk.leg ≠ 0 then
    legEvaluation (countSlip { s with rtk := { s.rtk with leg := 0 } })
  else legEvaluation s

/-- 60 s after the latest slip the flag is cleared (R86). -/
def slipFlagExpired (s : State) : State :=
  if due s.rtk.slipUntil s.timebase then { s with rtk := { s.rtk with slipUntil := none } } else s

end Sys2Proof.Machine
end

