-- ==== Sys2Proof/Machine/Handover.lean ====
section
/-! DEFINITION. The handover block (chapter 3): claims and releases heard, and the expiry of the departure list. -/

namespace Sys2Proof.Machine

/-- The open entry of slot `i` is released to a claimant: closed HANDOVER, then a RELEASE with its K after the final
rating (R51). -/
def releaseEntry (claimant i : Nat) (s : State) : State :=
  let s1 := rateSlot true false s.rtk.zone s.slc.ratingLink i s
  match s1.slot i with
  | .opened e =>
    offerRelease ⟨e.key, claimant, e.k, e.capReached, s1.rtk.voyage⟩ (finishClose .handover false i s1)
  | _ => s1

/-- A departure list entry answers a claim and is removed (R52). -/
def releaseFromList (claimant : Nat) (d : Departure) (s : State) : State :=
  forgetDeparture d.key (offerRelease ⟨d.key, claimant, d.charge, d.capReached, s.rtk.voyage⟩ s)

/-- A CLAIM for a key heard from another station (R50). -/
def takeClaim (claimant key : Nat) (s : State) : State :=
  if claimant = s.own then s
  else
    match s.findOpen key with
    | some i =>
      match s.entry? i with
      | some e => if e.claimPending then s else releaseEntry claimant i s
      | none => s
    | none =>
      match s.departed? key with
      | some d => releaseFromList claimant d s
      | none => s

/-- The merge of a carried charge into an entry (R54): K up to the ceiling, or C where the cap-reached flag is set. -/
def Entry.merge (charge : Nat) (reached : Bool) (e : Entry) : Entry :=
  let k := if reached && e.cap != 0 then e.cap else min (e.k + charge) (ceilingOf e.cap)
  let bars := e.state == .active && Machine.capReached e.cap k
  { e with k := k, state := if bars then .barred else e.state, barredIn := e.barredIn || bars }

/-- Merge into the open entry of slot `i`, sending BAR where it bars (R54, R13). -/
def mergeInto (i : Nat) (m : ReleaseMsg) (s : State) : State :=
  match s.slot i with
  | .opened e =>
    let e' := e.merge m.charge m.capReached
    let s1 := s.setSlot i (.opened e')
    if becameBarred e e' then queueRadio (.bar e.key) s1 else s1
  | _ => s

/-- One more stale release (R55). -/
def countStale (s : State) : State :=
  { s with hov := { s.hov with staleReleases := satInc Config.maxCount s.hov.staleReleases } }

/-- A RELEASE heard that this station did not send (R54, R55). A claimant of 0 means none (12.1), so it names no
listen-only station. -/
def takeRelease (m : ReleaseMsg) (s : State) : State :=
  if m.claimant ≠ s.own ∨ m.claimant = 0 then s
  else
    match s.findOpen m.key with
    | none => countStale s
    | some i => if m.voyage = s.rtk.voyage then mergeInto i m s else countStale s

/-- The oldest departure list entry is removed 3600 s after its departure time (R60). -/
def departureExpired (s : State) : State :=
  match s.hov.departures with
  | [] => s
  | d :: rest =>
    if Config.departureLife ≤ s.timebase - d.time then { s with hov := { s.hov with departures := rest } } else s

end Sys2Proof.Machine
end

