-- ==== Sys2Proof/Machine/Tables.lean ====
section
/-! DEFINITION. The table store (chapter 8): the load window, the writing of a row, and its notices. -/

namespace Sys2Proof.Machine

/-- Set the load window. -/
def setWindow (w : Option Window) (s : State) : State := { s with tbl := { s.tbl with window := w } }

/-- A frame of another kind from the loading sender closes the window (R155). -/
def endWindow (sender : Nat) (s : State) : State :=
  match s.tbl.window with
  | none => s
  | some w => if w.sender = sender then setWindow none s else s

/-- One more refused open (R152). -/
def countRefusedOpen (s : State) : State :=
  { s with tbl := { s.tbl with refusedOpens := satInc Config.maxCount s.tbl.refusedOpens } }

/-- One more stray TABLE-DATA (R153, R154). -/
def countStray (s : State) : State :=
  { s with tbl := { s.tbl with strayData := satInc Config.maxCount s.tbl.strayData } }

/-- A TABLE-OPEN (R152): the window opens, or the open is refused and counted. -/
def takeTableOpen (sender : Nat) (m : WindowMsg) (s : State) : State :=
  match tableOf m.table with
  | none => countRefusedOpen s
  | some t =>
    if m.first ≤ m.last ∧ m.last < t.rows then setWindow (some ⟨t, m.first, m.last, m.first, sender⟩) s
    else countRefusedOpen s

/-- Store row `i` of a table from its bytes, clamped (R156, Table 12.8). ROUTE row 0 is the header (R149). -/
def writeRow (t : TableId) (i : Nat) (bs : List Byte) (tbl : Tbl) : Tbl :=
  match t with
  | .zone => { tbl with zones := tbl.zones.set i (field bs 0 3) }
  | .tariff => { tbl with tariffs := tbl.tariffs.set i (tariffOf bs) }
  | .partner => { tbl with partners := tbl.partners.set i (partnerOf bs) }
  | .route =>
    match i with
    | 0 => { tbl with route := headerOf bs }
    | j + 1 => { tbl with legs := tbl.legs.set j (legRowOf bs) }
  | .link => { tbl with links := tbl.links.set i (linkRowOf bs) }
  | .silence => { tbl with silences := tbl.silences.set i (silenceOf bs) }

/-- The notice of a row write, acted on in the same event (R157, R158, Table 8.4). -/
def notice (t : TableId) (i : Nat) (s : State) : State :=
  match t with
  | .zone => if i = s.rtk.zone then sendIdentity s else s
  | .tariff => s
  | .partner => recheckRow i s
  | .route =>
    match i with
    | 0 => evaluate (headerWritten s)
    | _ + 1 => legEvaluation s
  | .link => evaluate s
  | .silence => evaluateSilence s

/-- The pointer moves to the next row, and from the last row returns to the first (R153). -/
def Window.advance (w : Window) : Window :=
  { w with pointer := if w.pointer = w.last then w.first else w.pointer + 1 }

/-- A TABLE-DATA (R153, R154): the row at the pointer is written, its notice acted on and the pointer moved; or it is a
stray. -/
def takeTableData (sender : Nat) (bs : List Byte) (s : State) : State :=
  match s.tbl.window with
  | none => countStray s
  | some w =>
    if w.sender = sender ∧ bs.length = w.table.rowLength then
      setWindow (some w.advance)
        (notice w.table w.pointer { s with tbl := writeRow w.table w.pointer bs s.tbl })
    else countStray s

end Sys2Proof.Machine
end

