-- ==== Sys2Proof/Machine/Frames.lean ====
section
/-! DEFINITION. Frame layouts (chapter 12): the payload of every frame the part sends, the header, the checkword
(R161) and the whole frame as bytes; the building of BEACON and REPORT (R129, R193). -/

namespace Sys2Proof.Machine

/-! ## Checkword (R161, R78) -/

/-- A checkword takes in one word: rotated left by one bit, then XORed (R161). -/
def absorb (c w : Word) : Word := c.rotateLeft 1 ^^^ w

/-- Bytes paired into words, the first byte of each pair the upper half, an odd last byte padded with zero (R161). -/
def wordsOf : List Byte → List Word
  | [] => []
  | [a] => [a ++ 0#8]
  | a :: b :: rest => (a ++ b) :: wordsOf rest

/-- The checkword run on over bytes (R161, R78). -/
def checkwordFrom (c : Word) (bs : List Byte) : Word := (wordsOf bs).foldl absorb c

/-! ## Payloads (Tables 12.4 to 12.7) -/

/-- LINK payload (Table 12.4): link id and hold flag, announcement and failed mark. -/
def linkBytes (m : LinkMsg) : List Byte :=
  let code := match m.announce with
    | .carry => 1
    | .drain => 2
    | .down failed => 3 + flagBit failed 7
  [BitVec.ofNat 8 (m.linkId % 8 + flagBit m.hold 7), BitVec.ofNat 8 code]

/-- RELEASE payload (Table 12.4). -/
def releaseBytes (m : ReleaseMsg) : List Byte :=
  bytesOf 5 m.key ++ bytesOf 1 m.claimant ++ bytesOf 3 m.charge ++ bytesOf 1 (flagBit m.capReached 0) ++
    bytesOf 1 m.voyage

/-- A cover set in four bytes, 0 in each place not used (Table 12.5). -/
def coverBytes (l : List Nat) : List Byte := (List.range 4).map (fun i => BitVec.ofNat 8 (l.getD i 0))

/-- BEACON payload (Table 12.5). -/
def beaconBytes (m : BeaconMsg) : List Byte :=
  bytesOf 1 (servingCode m.serving + flagBit m.slip 2 + flagBit m.radioFault 3 + flagBit m.storeHigh 4 +
      flagBit m.configFault 5 + flagBit m.hold 6) ++
    bytesOf 1 m.openCount ++ bytesOf 1 m.leg ++ bytesOf 1 m.voyage ++
    bytesOf 1 (m.linkId % 8 + 16 * phaseCode m.phase) ++ coverBytes m.cover

/-- An optional field of a BILL: three bytes where it is above 0 (Table 12.6). -/
def optionalField (n : Nat) : List Byte := if n = 0 then [] else bytesOf 3 n

/-- BILL payload, 23 to 32 bytes (Table 12.6). -/
def billBytes (b : Stored) : List Byte :=
  let r := b.record
  bytesOf 5 r.key ++ bytesOf 1 r.station ++ bytesOf 2 b.sequence ++ bytesOf 1 r.voyage ++
    bytesOf 1 (causeCode r.cause + flagBit r.mixed 4 + flagBit r.saturated 5 + flagBit r.barredIn 6 +
      flagBit (r.forgiven != 0) 7) ++
    bytesOf 1 (r.zone % 8 + 8 * (r.link % 8) + flagBit (r.overrunData != 0) 6 + flagBit (r.overrunVoice != 0) 7) ++
    bytesOf 3 r.data ++ bytesOf 3 r.voice ++ bytesOf 3 r.charge ++ bytesOf 3 r.kAfter ++
    optionalField r.forgiven ++ optionalField r.overrunData ++ optionalField r.overrunVoice

/-- DRAIN-END payload (Table 12.4). -/
def drainEndBytes (m : DrainEndMsg) : List Byte :=
  bytesOf 1 (stopCode m.status) ++ bytesOf 1 m.sent ++ bytesOf 1 m.voyage ++ bytesOf 2 m.tallyWord.toNat ++
    bytesOf 2 m.tallyCount

/-- REPORT payload, 32 bytes (Table 12.7). The link id byte of a carrier view that is none is a free value, the table giving
only station 0 there (assumption 35, DESIGN CHOICE). -/
def reportBytes (m : ReportMsg) : List Byte :=
  bytesOf 1 (servingCode m.serving + flagBit m.deadlinePassed 2 + flagBit m.holdUsed 3 + flagBit m.configFault 4) ++
    bytesOf 1 m.openCount ++ bytesOf 1 m.closingCount ++ bytesOf 1 m.freeCount ++ bytesOf 1 m.departures ++
    bytesOf 1 m.storeCount ++ bytesOf 1 (phaseCode m.phase + flagBit m.terminalPresent 7) ++
    bytesOf 1 (m.linkId % 8 + 16 * linkKindCode m.linkKind) ++
    (match m.view with
      | some c => bytesOf 1 c.station ++ bytesOf 1 c.link
      | none => bytesOf 1 0 ++ bytesOf 1 (Config.noCarrierLink % 8)) ++
    bytesOf 1 m.leg ++ bytesOf 1 m.voyage ++ bytesOf 1 m.zone ++ coverBytes m.cover ++
    bytesOf 1 m.unheard ++ bytesOf 1 m.present ++ bytesOf 1 m.quiet ++ bytesOf 1 m.lost ++
    bytesOf 1 m.legDisagreement ++ bytesOf 2 m.slipCount ++ bytesOf 2 m.busErrors ++ bytesOf 2 m.channelErrors ++
    bytesOf 2 m.drops ++ bytesOf 2 m.refusedOpens

/-! ## Frames (R160, Table 12.1) -/

/-- The arbitration field: class, deferral sent as 3 minus its value, sender (R164, Table 12.1). -/
def arbitrationField (cls deferral sender : Nat) : Nat := cls * 128 + (3 - deferral) * 32 + sender

/-- The header word (Table 12.1). -/
def headerWord (kind : Kind) (deferral sender : Nat) : Nat :=
  arbitrationField kind.cls deferral sender * 64 + kind.code

/-- A frame but for its checkword: header, length byte, payload (R160). -/
def frameBody (kind : Kind) (deferral sender : Nat) (payload : List Byte) : List Byte :=
  bytesOf 2 (headerWord kind deferral sender) ++ bytesOf 1 payload.length ++ payload

/-- A whole frame as it goes out (R160, R161). -/
def frameBytes (kind : Kind) (deferral sender : Nat) (payload : List Byte) : List Byte :=
  let body := frameBody kind deferral sender payload
  body ++ bytesOf 2 (checkwordFrom 0 body).toNat

/-! ## Contents built from the state -/

/-- A BEACON's content as the state stands (R129, Table 7.2). -/
def State.buildBeacon (s : State) : BeaconMsg :=
  { serving := s.prc.serving, slip := s.rtk.slipUntil.isSome, radioFault := s.radioFault, storeHigh := s.storeHigh
    configFault := s.cfg.configFault, hold := s.slc.hold, openCount := s.openCount, leg := s.rtk.leg
    voyage := s.rtk.voyage, linkId := s.ownLink, phase := s.slc.phase
    cover := s.prc.cover.map CoverMember.station }

/-- A counter of REPORT: the sum of its counts, saturating at 65,535 (R194). -/
def counterOf (counts : List Nat) : Nat := min counts.sum Config.maxCount

/-- REPORT's bus-error counter (Table 11.2). -/
def State.busErrors (s : State) : Nat :=
  counterOf [s.dbi.lengthErrors, s.dbi.checkwordErrors, s.dbi.senderZeroErrors, s.dbi.unknownKindErrors,
    s.dbi.classErrors, s.dbi.transmitErrors, s.rtk.badMarks, s.cfg.malformed]

/-- REPORT's channel-error counter (Table 11.2). -/
def State.channelErrors (s : State) : Nat :=
  counterOf [s.rch.errors, s.rch.overruns, s.tch.errors, s.tch.overruns, s.sub.unknownUsage, s.prc.refusedHolds]

/-- REPORT's drop counter (Table 11.2). -/
def State.dropCounter (s : State) : Nat :=
  counterOf [s.dbi.class1Drops, s.dbi.reportDrops, s.hov.departureDrops, s.hov.staleReleases, s.rch.drops, s.tch.drops]

/-- REPORT's count of refused table opens (Table 11.2, R159). -/
def State.refusedCounter (s : State) : Nat := counterOf [s.tbl.refusedOpens, s.tbl.strayData]

/-- A REPORT's content as the state stands (R193). -/
def State.buildReport (s : State) : ReportMsg :=
  { serving := s.prc.serving, deadlinePassed := s.prc.healthDeadline.isNone, holdUsed := s.prc.holdUsed
    configFault := s.cfg.configFault, openCount := s.openCount
    closingCount := s.sub.slots.countP Slot.isClosing, freeCount := s.sub.slots.countP Slot.isFree
    departures := s.hov.departures.length, storeCount := s.bsd.store.length, phase := s.slc.phase
    terminalPresent := s.cfg.straps.terminalPresent, linkId := s.ownLink, linkKind := s.ownLinkRow.kind
    view := s.slc.view, leg := s.rtk.leg, voyage := s.rtk.voyage, zone := s.rtk.zone
    cover := s.prc.cover.map CoverMember.station
    unheard := s.peerCount .unheard, present := s.peerCount .present, quiet := s.peerCount .quiet
    lost := s.peerCount .lost, legDisagreement := s.legDisagreement, slipCount := s.rtk.slipCount
    busErrors := s.busErrors, channelErrors := s.channelErrors, drops := s.dropCounter
    refusedOpens := s.refusedCounter }

end Sys2Proof.Machine
end

