-- ==== Sys2Proof/Machine/Restart.lean ====
section
/-! DEFINITION. Power-on and the restarts (chapter 11): the blocks' restart steps in the fixed order of R190, and the
meanings of POWER_ON, RESTART_COLD, RESTART_WARM, RESTART_PIN and RESTART_IGNORED. -/

namespace Sys2Proof.Machine

/-! ## The configuration memory (R188) -/

/-- The XOR of bytes 0 to 6, XORed with 0xA5 (R188). -/
def recordCheck (m : List Byte) : Byte := (m.take 7).foldl (· ^^^ ·) 0xA5#8

/-- The record is rejected: check, a neighbour above 31, or the station's own number where that is not 0 (R188). -/
def rejectsRecord (own : Nat) (m : List Byte) : Bool :=
  m.getD 7 0#8 != recordCheck m ||
    (m.take 4).any (fun b => 31 < b.toNat || (own != 0 && b.toNat == own))

/-- The neighbour list and the config-fault flag that a memory gives (R188). -/
def readMemory (own : Nat) (memory : Option (List Byte)) : List Nat × Bool :=
  match memory with
  | none => ([], true)
  | some m =>
    if rejectsRecord own m then ([], true)
    else (((m.take 4).map BitVec.toNat).filter (fun n => n != 0), false)

/-- CFG's restart step: straps, memory, malformed-request count 0 (R187, R188, R190). -/
def restartCfg (b : Board) : Cfg :=
  let r := readMemory b.straps.station b.memory
  ⟨b.straps, r.1, r.2, 0⟩

/-! ## The blocks' steps (R190) -/

/-- Steps 1 to 3: DBI, the channels, CFG (R173, R186, R187, R188). The hold line of the terminal is read afresh under
the new straps (R183, R180). -/
def restartPorts (b : Board) (s : State) : State :=
  { s with
    dbi := .reset, rch := .reset, radioFault := false, tch := .reset
    cfg := restartCfg b
    slc := { s.slc with hold := s.terminalHold && terminalStraps b.straps } }

/-- Step 5 at a warm restart: the route tracker keeps its state but for the bad marks and the slip flag (R99). The dwell is
stopped here. -/
def restartRtkWarm (s : State) : State :=
  { s with
    rtk := { s.rtk with slipUntil := none, badMarks := 0 }
    prc := { s.prc with dwellUntil := none, pendingWake := false } }

/-- Step 4 at a warm restart: the rows are kept, the window closed and the counts 0 (R159). -/
def restartTblWarm (s : State) : State :=
  { s with tbl := { s.tbl with window := none, refusedOpens := 0, strayData := 0 } }

/-- Step 6 at a warm restart: every open entry closed DORMANT in attach order with no directive, and the unknown-usage
count 0 (R23). -/
def restartSubWarm (s : State) : State :=
  let s1 := sweep .dormant true s
  { s1 with sub := { s1.sub with unknownUsage := 0 } }

/-- Step 7 at a warm restart: the departure list is kept, the pending claims emptied, the counts 0 (R63). -/
def restartHovWarm (s : State) : State :=
  { s with hov := { s.hov with pendingClaims := [], staleReleases := 0, departureDrops := 0 } }

/-- Step 8 at a warm restart: store, sequence and tally are kept; a drain found RUNNING or ENDING is ended HALTED (R81). -/
def restartBsdWarm (s : State) : State :=
  match s.bsd.drain with
  | .idle => s
  | .running _ sent => endDrain .halted sent s
  | .ending sent _ => endDrain .halted sent s

/-- Step 9: shore link control takes its steps under the newly sampled straps (R122, R123). A terminal station found in a
phase past OFF queues DEACTIVATE and LINK DOWN and enters OFF; where the plan still wants its link it is activated again
(R190). -/
def restartSlc (s : State) : State :=
  let found := s.slc.phase
  let s1 := { s with slc := { s.slc with
    phase := if s.isTerminal then .off else .none
    activated := false, settleAt := none, runCount := 0, belowFloor := 0, drainAt := none, retryAt := none
    view := none, shoreHold := false, gateOpen := false } }
  if s.isTerminal && found != .none && found != .off then
    let s2 := announce (.down false) (deactivate s1)
    if s2.wantedByPlan then activate s2 else s2
  else s1

/-- Step 10: the peer roster and coverage block (R125, R143): COVER off for each member of the cover set, then DORMANT. -/
def restartPrc (s : State) : State :=
  let s1 := queueRadio .dormant (emptyCover s)
  { s1 with prc := .reset s1.timebase s1.own s1.cfg.neighbours }

/-- RESTART COLD (R189, R190). -/
def restartColdNow (b : Board) (s : State) : State :=
  let s1 := restartPorts b s
  let s2 := { s1 with
    tbl := .reset, rtk := .reset, sub := .reset, hov := .reset, bsd := .reset
    slc := { s1.slc with ratingLink := 0 } }
  restartPrc (restartSlc s2)

/-- RESTART WARM and the restart pin (R189, R190). -/
def restartWarmNow (b : Board) (s : State) : State :=
  restartPrc (restartSlc (restartBsdWarm (restartHovWarm (restartSubWarm (restartRtkWarm (restartTblWarm
    (restartPorts b s)))))))

/-- Power-on: every block from nothing, the timebase 0, DORMANT alone queued (R190, R191). -/
def powerOnNow (p : Pins) (s : State) : State :=
  let terminal := terminalStraps p.board.straps
  let cfg := restartCfg p.board
  queueRadio .dormant
    { s with
      timebase := 0, radioHold := p.radioHold, terminalHold := p.terminalHold
      sub := .reset, hov := .reset, bsd := .reset, rtk := .reset
      slc := .reset (if terminal then .off else .none) (p.terminalHold && terminal)
      prc := .reset 0 cfg.straps.station cfg.neighbours
      tbl := .reset, dbi := .reset, rch := .reset, radioFault := false, tch := .reset, cfg := cfg }

/-- A RESTART frame is addressed to this station: its own number, not 0, or 0 for every station (R189). -/
def State.addressed (s : State) (target : Nat) : Bool := target == s.own || target == 0

end Sys2Proof.Machine
end

