-- ==== Sys2Proof/Machine/DeckBus.lean ====
section
/-! DEFINITION. The deck bus interface (chapter 9): the hand-on of an accepted frame (R163), sending and self-reception
(R164 to R168), and the meanings of the frame commands of the table. -/

namespace Sys2Proof.Machine

/-! ## Accepted frames (R163) -/

/-- The first two steps of an accepted frame that is no TABLE-OPEN or TABLE-DATA: heard from its sender, and a load window
of its sender closed (R163, R155). -/
def hear (sender : Nat) (s : State) : State := endWindow sender (heardFrom sender none s)

/-- A BEACON of serving state STARTING shows what no beacon shows and is malformed (R195). -/
def soundBeacon (m : Option BeaconMsg) : Option BeaconMsg := m.filter (fun b => b.serving != .starting)

/-- WAYPOINT with the origin flag clear (R84, R85). -/
def execWaypoint (sender : Nat) (leg : Option Nat) (s : State) : Host.Outcome State Fault Refusal :=
  match leg with
  | none => .next (countMalformed (hear sender s))
  | some l => .next (takeMark l (hear sender s))

/-- WAYPOINT with the origin flag set (R84). -/
def execWaypointOrigin (sender : Nat) (s : State) : Host.Outcome State Fault Refusal :=
  .next (takeOrigin (hear sender s))

/-- CLAIM from another station (R50). -/
def execClaimHeard (sender : Nat) (key : Option Nat) (s : State) : Host.Outcome State Fault Refusal :=
  match key with
  | none => .next (countMalformed (hear sender s))
  | some k => .next (takeClaim sender k (hear sender s))

/-- RELEASE (R54, R55). -/
def execReleaseHeard (sender : Nat) (msg : Option ReleaseMsg) (s : State) : Host.Outcome State Fault Refusal :=
  match msg with
  | none => .next (countMalformed (hear sender s))
  | some m => .next (takeRelease m (hear sender s))

/-- LINK announcing CARRY (R117, R109). -/
def execLinkCarryHeard (sender link : Nat) (hold : Bool) (s : State) : Host.Outcome State Fault Refusal :=
  .next (takeLink sender ⟨link, hold, .carry⟩ (hear sender s))

/-- LINK announcing DRAIN (R118). -/
def execLinkDrainHeard (sender link : Nat) (hold : Bool) (s : State) : Host.Outcome State Fault Refusal :=
  .next (takeLink sender ⟨link, hold, .drain⟩ (hear sender s))

/-- LINK announcing DOWN (R118). -/
def execLinkDownHeard (sender link : Nat) (hold failed : Bool) (s : State) : Host.Outcome State Fault Refusal :=
  .next (takeLink sender ⟨link, hold, .down failed⟩ (hear sender s))

/-- BEACON (R130, R117, R118): the roster with its copied fields, the load window, then shore link control. -/
def execBeaconHeard (sender : Nat) (msg : Option BeaconMsg) (s : State) : Host.Outcome State Fault Refusal :=
  match soundBeacon msg with
  | none => .next (countMalformed (hear sender s))
  | some m => .next (takeBeaconLink sender m (endWindow sender (heardFrom sender (some m) s)))

/-- TABLE-OPEN (R152): it ends no window (R155). -/
def execTableOpen (sender : Nat) (msg : Option WindowMsg) (s : State) : Host.Outcome State Fault Refusal :=
  match msg with
  | none => .next (countMalformed (heardFrom sender none s))
  | some m => .next (takeTableOpen sender m (heardFrom sender none s))

/-- TABLE-DATA (R153, R154): it ends no window (R155), and its length is never malformed (R195). -/
def execTableData (sender : Nat) (row : List Byte) (s : State) : Host.Outcome State Fault Refusal :=
  .next (takeTableData sender row (heardFrom sender none s))

/-- A DRAIN-REQUEST is acted on where it names this station, whose number is not 0 (R74). -/
def takeDrainRequest (target count : Nat) (s : State) : State :=
  if target = s.own ∧ target ≠ 0 then requestDrain (clampDrain count) s else s

/-- DRAIN-REQUEST (R74). -/
def execDrainRequest (sender : Nat) (msg : Option (Nat × Nat)) (s : State) : Host.Outcome State Fault Refusal :=
  match msg with
  | none => .next (countMalformed (hear sender s))
  | some q => .next (takeDrainRequest q.1 q.2 (hear sender s))

/-- A QUERY is answered where it names this station, whose number is not 0: a REPORT is built and queued (R192). -/
def takeQuery (target : Nat) (s : State) : State :=
  if target = s.own ∧ target ≠ 0 then offerReport s.buildReport s else s

/-- QUERY (R192). -/
def execQuery (sender : Nat) (target : Option Nat) (s : State) : Host.Outcome State Fault Refusal :=
  match target with
  | none => .next (countMalformed (hear sender s))
  | some t => .next (takeQuery t (hear sender s))

/-- BILL of another station: the roster alone, its payload not read (R195). -/
def execBillHeard (sender : Nat) (s : State) : Host.Outcome State Fault Refusal := .next (hear sender s)

/-- DRAIN-END of another station: the roster alone (R195). -/
def execDrainEndHeard (sender : Nat) (s : State) : Host.Outcome State Fault Refusal := .next (hear sender s)

/-- REPORT of another station: the roster alone (R195). -/
def execReportHeard (sender : Nat) (s : State) : Host.Outcome State Fault Refusal := .next (hear sender s)

/-- A LINK frame too short or of no announcement: heard, its window ended, counted (R195). -/
def execMalformedLinkFrame (sender : Nat) (s : State) : Host.Outcome State Fault Refusal :=
  .next (countMalformed (hear sender s))

/-- RESTART of kind COLD, where it is addressed to this station (R189). -/
def execRestartCold (sender target : Nat) (board : Board) (s : State) : Host.Outcome State Fault Refusal :=
  let s1 := hear sender s
  .next (if s1.addressed target then restartColdNow board s1 else s1)

/-- RESTART of kind WARM, where it is addressed to this station (R189). -/
def execRestartWarm (sender target : Nat) (board : Board) (s : State) : Host.Outcome State Fault Refusal :=
  let s1 := hear sender s
  .next (if s1.addressed target then restartWarmNow board s1 else s1)

/-- The restart pin becomes asserted: a warm restart (R189). -/
def execRestartPin (board : Board) (s : State) : Host.Outcome State Fault Refusal := .next (restartWarmNow board s)

/-- Power-on (R190). -/
def execPowerOn (pins : Pins) (s : State) : Host.Outcome State Fault Refusal := .next (powerOnNow pins s)

/-- A RESTART frame ignored as a restart: counted where its payload is short, or it is addressed to this station and its
kind names neither WARM nor COLD (R189). -/
def execRestartIgnored (sender : Nat) (msg : Option (Nat × Nat)) (s : State) : Host.Outcome State Fault Refusal :=
  let s1 := hear sender s
  match msg with
  | none => .next (countMalformed s1)
  | some q =>
    .next (if s1.addressed q.1 && q.2 != warmCode && q.2 != coldCode then countMalformed s1 else s1)

/-- The count that a failed receive check raises (Table 9.2). -/
def countReceiveError (c : RxCheck) (d : Dbi) : Dbi :=
  match c with
  | .length => { d with lengthErrors := satInc Config.maxCount d.lengthErrors }
  | .checkword => { d with checkwordErrors := satInc Config.maxCount d.checkwordErrors }
  | .senderZero => { d with senderZeroErrors := satInc Config.maxCount d.senderZeroErrors }
  | .unknownKind => { d with unknownKindErrors := satInc Config.maxCount d.unknownKindErrors }
  | .classField => { d with classErrors := satInc Config.maxCount d.classErrors }

/-- A frame fails a receive check: it is discarded and one count rises (R162). -/
def execFrameReceiveError (check : RxCheck) (s : State) : Host.Outcome State Fault Refusal :=
  .next { s with dbi := countReceiveError check s.dbi }

/-! ## Offering a frame to the line (R168) -/

/-- The queue whose frame is offered at an idle: the lowest class that holds a frame (R168). In class 5 a BILL and a
DRAIN-END never wait together (R77); were they to, the older would be offered. -/
def Dbi.offered (d : Dbi) : Option TxQueue :=
  if !d.class1.isEmpty then some .class1
  else if d.link.isSome then some .link
  else if d.beacon.isSome then some .beacon
  else
    match d.bill, d.drainEnd with
    | some b, some e => if e.entered < b.entered then some .drainEnd else some .bill
    | some _, none => some .bill
    | none, some _ => some .drainEnd
    | none, none => if d.reports.isEmpty then none else some .report

/-- A BEACON's contents are built at its start bit (R171). -/
def buildOnStart (s : State) (q : TxQueue) (d : Dbi) : Dbi :=
  match q with
  | .beacon => { d with beacon := d.beacon.map (fun w => { w with frame := some s.buildBeacon }) }
  | _ => d

/-- An idle line at which the part may start a frame (R160, R168); a listen-only station sends no start bit (R174). -/
def startFrame (s : State) : State :=
  if s.listenOnly || s.dbi.onLine.isSome then s
  else
    match s.dbi.offered with
    | none => s
    | some q => { s with dbi := { buildOnStart s q s.dbi with onLine := some q } }

/-- FRAME_START (R168). -/
def execFrameStart (s : State) : Host.Outcome State Fault Refusal := .next (startFrame s)

/-- A frame's deferral rises by one, saturating at 3 (R165). -/
def Waiting.defer {α : Type} (w : Waiting α) : Waiting α := { w with deferral := satInc Config.maxDeferral w.deferral }

/-- The oldest frame of a queue is deferred. -/
def deferHead {α : Type} : List (Waiting α) → List (Waiting α)
  | [] => []
  | w :: rest => w.defer :: rest

/-- The class-2 queue after its frame lost: a LINK waiting beside replaces it with the deferral just raised and its age
(R170). -/
def deferLink (beside : Option (Waiting LinkMsg)) (w : Waiting LinkMsg) : Waiting LinkMsg :=
  match beside with
  | none => w.defer
  | some b => { w.defer with frame := b.frame }

/-- The frame on the line stops being driven: its deferral rises and it stays in its place (R164, R165, R170). -/
def loseFrame (d : Dbi) : Dbi :=
  match d.onLine with
  | none => d
  | some .class1 => { d with onLine := none, class1 := deferHead d.class1 }
  | some .link => { d with onLine := none, link := d.link.map (deferLink d.linkBeside), linkBeside := none }
  | some .beacon => { d with onLine := none, beacon := d.beacon.map Waiting.defer }
  | some .bill => { d with onLine := none, bill := d.bill.map Waiting.defer }
  | some .drainEnd => { d with onLine := none, drainEnd := d.drainEnd.map Waiting.defer }
  | some .report => { d with onLine := none, reports := deferHead d.reports }

/-- ARBITRATION_LOST (R164, R165). -/
def execArbitrationLost (s : State) : Host.Outcome State Fault Refusal := .next { s with dbi := loseFrame s.dbi }

/-- The line is lost after the arbitration field: as an arbitration lost, and a transmit error (R166). -/
def loseLine (d : Dbi) : Dbi :=
  if d.onLine.isSome then
    { loseFrame d with transmitErrors := satInc Config.maxCount (loseFrame d).transmitErrors }
  else d

/-- LINE_LOST (R166). -/
def execLineLost (s : State) : Host.Outcome State Fault Refusal := .next { s with dbi := loseLine s.dbi }

/-! ## A frame sent, and received back (R167) -/

/-- A BILL is sent: its record leaves the store, the drain's counts move, the tally takes in its payload, room is
signalled, and the drain goes on or ends (R76, R77, R78). -/
def billSent (b : Stored) (s : State) : State :=
  let s1 := { s with bsd := { s.bsd with
    store := s.bsd.store.drop 1
    drain := s.bsd.drain.billSent
    tallyWord := checkwordFrom s.bsd.tallyWord (billBytes b)
    tallyCount := wrapInc Config.maxCount s.bsd.tallyCount } }
  continueDrain (storeRoom s1)

/-- The sending of the class-1 frame at the head: a CLAIM's key leaves the pending claims (R48). -/
def class1Sent (s : State) : State :=
  match s.dbi.class1 with
  | [] => s
  | w :: rest =>
    let s1 := { s with dbi := { s.dbi with class1 := rest } }
    match w.frame with
    | .claim key => forgetClaim key s1
    | .release _ => s1

/-- The sending, by queue (R167, first step). -/
def takeSending (q : TxQueue) (s : State) : State :=
  match q with
  | .class1 => class1Sent s
  | .link => { s with dbi := { s.dbi with link := s.dbi.linkBeside, linkBeside := none } }
  | .beacon => { s with dbi := { s.dbi with beacon := none } }
  | .bill =>
    match s.dbi.bill with
    | none => s
    | some w => billSent w.frame { s with dbi := { s.dbi with bill := none } }
  | .drainEnd =>
    match s.dbi.drainEnd with
    | none => s
    | some _ => drainEndSent { s with dbi := { s.dbi with drainEnd := none } }
  | .report => { s with dbi := { s.dbi with reports := s.dbi.reports.drop 1 } }

/-- What the part's own frame brings about when it comes back (R116, R163): a LINK and a BEACON reach shore link control
as another station's would; the other kinds are ignored by the blocks that sent them (R48, R55). -/
def ownContent (q : TxQueue) (before : Dbi) (s : State) : State :=
  match q with
  | .link =>
    match before.link with
    | some w => takeLink s.own w.frame s
    | none => s
  | .beacon =>
    match before.beacon with
    | some w =>
      match w.frame with
      | some m => takeBeaconLink s.own m s
      | none => s
    | none => s
  | .class1 => s
  | .bill => s
  | .drainEnd => s
  | .report => s

/-- The self-reception (R167, second step): the hand-on of R163 to the part's own frame, or the count of the check that
its reception fails. -/
def receiveOwn (q : TxQueue) (before : Dbi) (disturbed : Option RxCheck) (s : State) : State :=
  match disturbed with
  | some c => { s with dbi := countReceiveError c s.dbi }
  | none => ownContent q before (hear s.own s)

/-- The frame on the line has gone out whole (R167): the sending, then the self-reception. -/
def frameSent (disturbed : Option RxCheck) (s : State) : State :=
  match s.dbi.onLine with
  | none => s
  | some q =>
    receiveOwn q s.dbi disturbed (takeSending q { s with dbi := { s.dbi with onLine := none } })

/-- FRAME_SENT (R167). -/
def execFrameSent (disturbed : Option RxCheck) (s : State) : Host.Outcome State Fault Refusal :=
  .next (frameSent disturbed s)

end Sys2Proof.Machine
end

