-- ==== Sys2Proof/Machine/Channels.lean ====
section
/-! DEFINITION. The radio and terminal channels (chapter 10): good messages and their hand-on, errors, breaks and
silence, the hold lines and the sending of directives, with the meanings of the channel commands of the table. -/

namespace Sys2Proof.Machine

/-! ## Good messages (R177) -/

/-- A message has ended, good, in error or overrun: the receiver hunts (R176). -/
def Chan.hunt {δ : Type} (c : Chan δ) : Chan δ := { c with receiver := .hunting }

/-- A good message makes a channel UP and restarts its silence time (R177, R179). -/
def Chan.goodMessage {δ : Type} (now : Nat) (c : Chan δ) : Chan δ :=
  { c.hunt with up := true, silenceFrom := some now }

/-- A good message from the radio head (R177). -/
def radioGood (s : State) : State := { s with rch := s.rch.goodMessage s.timebase }

/-- A good message from the terminal (R177). -/
def terminalGood (s : State) : State := { s with tch := s.tch.goodMessage s.timebase }

/-- A message from the terminal, handed on by `f`; a channel held off takes in nothing (R180). -/
def fromTerminal (f : State → State) (s : State) : State := if s.isTerminal then f (terminalGood s) else s

/-- ATTACH (R6 to R9). -/
def execAttach (key home : Nat) (services : Services) (s : State) : Host.Outcome State Fault Refusal :=
  .next (attach key home services (radioGood s))

/-- DETACH (R12). -/
def execDetach (key : Nat) (s : State) : Host.Outcome State Fault Refusal := .next (takeDetach key (radioGood s))

/-- USAGE (R10, R11, R28). -/
def execUsage (key data voice : Nat) (s : State) : Host.Outcome State Fault Refusal :=
  .next (takeUsage key data voice (radioGood s))

/-- HEALTH (R137, R142). -/
def execHealth (s : State) : Host.Outcome State Fault Refusal := .next (takeHealth (radioGood s))

/-- HOLD (R138). -/
def execHold (s : State) : Host.Outcome State Fault Refusal := .next (takeHold (radioGood s))

/-- STATUS UP: the channel is UP, and nothing else changes (R112). -/
def execStatusUp (s : State) : Host.Outcome State Fault Refusal := .next (fromTerminal id s)

/-- STATUS DOWN: an activated phase fails (R111). -/
def execStatusDown (s : State) : Host.Outcome State Fault Refusal := .next (fromTerminal failActivated s)

/-- STATUS IDLE ends a drain of flows, and is ignored in the other phases (R110, R112). -/
def takeIdle (s : State) : State := if s.slc.phase = .draining then linkDrained s else s

/-- STATUS IDLE (R110). -/
def execStatusIdle (s : State) : Host.Outcome State Fault Refusal := .next (fromTerminal takeIdle s)

/-- QUALITY (R105, R108). -/
def execQuality (score : Nat) (s : State) : Host.Outcome State Fault Refusal :=
  .next (fromTerminal (takeQuality score) s)

/-! ## Errors (R176, R177) -/

/-- The message was a good one that is not handed on (R177). -/
def isGood : MessageError → Bool
  | .unknownType | .wrongLength | .outOfRange => true
  | .parity | .framing | .gap | .checkbyte => false

/-- The message is discarded, the receiver hunts, and the errors rise by one; one that a good message has makes the channel
UP all the same (R176, R177). -/
def Chan.messageError {δ : Type} (now : Nat) (e : MessageError) (c : Chan δ) : Chan δ :=
  let c1 := if isGood e then c.goodMessage now else c.hunt
  { c1 with errors := satInc Config.maxCount c1.errors }

/-- A message error can arise: a parity error only where parity is strapped on (R176). -/
def State.canErr (s : State) (e : MessageError) : Bool := e != .parity || s.cfg.straps.parity

/-- A message discarded and counted, or a good one counted and not handed on (R176, R177). -/
def messageError (ch : Channel) (e : MessageError) (s : State) : State :=
  if !s.canErr e then s
  else
    match ch with
    | .radio => { s with rch := s.rch.messageError s.timebase e }
    | .terminal => if s.isTerminal then { s with tch := s.tch.messageError s.timebase e } else s

/-- CHANNEL_MESSAGE_ERROR (R176, R177). -/
def execChannelMessageError (channel : Channel) (error : MessageError) (s : State) :
    Host.Outcome State Fault Refusal := .next (messageError channel error s)

/-- The message is discarded, the receiver hunts, and the overruns rise by one (R176). -/
def Chan.overrun {δ : Type} (c : Chan δ) : Chan δ := { c.hunt with overruns := satInc Config.maxCount c.overruns }

/-- A message overruns (R176); a channel held off takes in nothing (R180). -/
def overrun (ch : Channel) (s : State) : State :=
  match ch with
  | .radio => { s with rch := s.rch.overrun }
  | .terminal => if s.isTerminal then { s with tch := s.tch.overrun } else s

/-- CHANNEL_OVERRUN (R176). -/
def execChannelOverrun (channel : Channel) (s : State) : Host.Outcome State Fault Refusal :=
  .next (overrun channel s)

/-! ## Loss (R178, R179) -/

/-- The radio channel becomes LOST, if UP; the loss goes to the health rules (R178, R179, R140). -/
def loseRadio (s : State) : State :=
  if s.rch.up then radioLost { s with rch := { s.rch with up := false } } else s

/-- The terminal channel becomes LOST, if UP; an activated phase fails (R178, R179, R111). -/
def loseTerminal (s : State) : State :=
  if s.isTerminal && s.tch.up then failActivated { s with tch := { s.tch with up := false } } else s

/-- The silence of a channel has reached 1000 ms (R179). -/
def Chan.silent {δ : Type} (now : Nat) (c : Chan δ) : Bool := c.up && elapsed c.silenceFrom now Config.channelSilence

/-- RADIO_SILENCE_EXPIRY (R179). -/
def execRadioSilenceExpiry (s : State) : Host.Outcome State Fault Refusal :=
  .next (if s.rch.silent s.timebase then loseRadio s else s)

/-- TERMINAL_SILENCE_EXPIRY: watched only while activated (R179). -/
def execTerminalSilenceExpiry (s : State) : Host.Outcome State Fault Refusal :=
  .next (if s.slc.activated && s.tch.silent s.timebase then loseTerminal s else s)

/-- A break makes the channel LOST if UP, and leaves its receiver hunting (R178); a channel held off takes in nothing
(R180). -/
def breakChannel (ch : Channel) (s : State) : State :=
  match ch with
  | .radio => loseRadio { s with rch := s.rch.hunt }
  | .terminal => if s.isTerminal then loseTerminal { s with tch := s.tch.hunt } else s

/-- CHANNEL_BREAK (R178). -/
def execChannelBreak (channel : Channel) (s : State) : Host.Outcome State Fault Refusal :=
  .next (breakChannel channel s)

/-! ## Directives out (R181 to R183, R186) -/

/-- The directive being sent has gone out: it leaves its queue and the next is started where it may be (R181, R182). -/
def Chan.sent {δ : Type} (gate : Bool) (c : Chan δ) : Chan δ :=
  if c.sending then Chan.start gate { c with queue := c.queue.drop 1, sending := false } else c

/-- The radio transmitter's directive has gone out; an emptied queue clears the radio-fault flag (R181). -/
def radioSent (s : State) : State :=
  if s.rch.sending then
    let c := s.rch.sent s.radioGate
    { s with rch := c, radioFault := s.radioFault && !c.queue.isEmpty }
  else s

/-- A directive's checkbyte has gone out (R181). -/
def directiveSent (ch : Channel) (s : State) : State :=
  match ch with
  | .radio => radioSent s
  | .terminal => { s with tch := s.tch.sent s.terminalGate }

/-- DIRECTIVE_SENT (R181). -/
def execDirectiveSent (channel : Channel) (s : State) : Host.Outcome State Fault Refusal :=
  .next (directiveSent channel s)

/-- The radio hold line is asserted: no new directive is started (R182). -/
def execRadioHoldLineAsserted (s : State) : Host.Outcome State Fault Refusal := .next { s with radioHold := true }

/-- The radio transmitter starts where it may. -/
def startRadio (s : State) : State := { s with rch := s.rch.start s.radioGate }

/-- The radio hold line is released: the oldest directive is started (R182). -/
def execRadioHoldLineReleased (s : State) : Host.Outcome State Fault Refusal :=
  .next (startRadio { s with radioHold := false })

/-- The terminal's hold line takes a level; at a terminal station a change is handed to shore link control (R183, R180). -/
def terminalHoldLine (asserted : Bool) (s : State) : State :=
  let s1 := { s with terminalHold := asserted }
  if s.isTerminal then takeTerminalHold asserted s1 else s1

/-- TERMINAL_HOLD_LINE_CHANGE (R183). -/
def execTerminalHoldLineChange (asserted : Bool) (s : State) : Host.Outcome State Fault Refusal :=
  .next (terminalHoldLine asserted s)

/-- The mark hold after a restart ends: the first directive queued is started, unless the radio hold line is asserted
(R186). -/
def markHoldEnd (ch : Channel) (s : State) : State :=
  match ch with
  | .radio => startRadio { s with rch := { s.rch with markHold := false } }
  | .terminal =>
    { s with tch := Chan.start true { s.tch with markHold := false } }

/-- MARK_HOLD_AFTER_RESTART_END (R186). -/
def execMarkHoldAfterRestartEnd (channel : Channel) (s : State) : Host.Outcome State Fault Refusal :=
  .next (markHoldEnd channel s)

end Sys2Proof.Machine
end

