-- ==== Sys2Proof/Machine/Timers.lean ====
section
/-! DEFINITION. The commands that say a time of the part's own has come (0.7.2). One that comes while its timer does not
run, or before its time, is no such event and changes nothing (assumption 4, DESIGN CHOICE). -/

namespace Sys2Proof.Machine

/-- A beacon time of the schedule (R129): a BEACON is queued, the next time is 250 ms on, and the intervals are
checked. -/
def beaconTime (s : State) : State :=
  match s.prc.nextBeacon with
  | none => s
  | some t => if t ≤ s.timebase && s.prc.serving != .starting then beaconAt (scheduleBeacon t s) else s

/-- BEACON_TIME (R129). -/
def execBeaconTime (s : State) : Host.Outcome State Fault Refusal := .next (beaconTime s)

/-- LISTEN_PERIOD_END (R127). -/
def execListenPeriodEnd (s : State) : Host.Outcome State Fault Refusal :=
  .next (if due s.prc.listenUntil s.timebase && s.prc.serving = .starting then leaveStarting s else s)

/-- DWELL_EXPIRY (R96). -/
def execDwellExpiry (s : State) : Host.Outcome State Fault Refusal := .next (dwellExpired s)

/-- SLIP_FLAG_EXPIRY (R86). -/
def execSlipFlagExpiry (s : State) : Host.Outcome State Fault Refusal := .next (slipFlagExpired s)

/-- DEPARTURE_EXPIRY (R60). -/
def execDepartureExpiry (s : State) : Host.Outcome State Fault Refusal := .next (departureExpired s)

/-- PEER_QUIET (R131). -/
def execPeerQuiet (peer : Nat) (s : State) : Host.Outcome State Fault Refusal := .next (peerQuiet peer s)

/-- PEER_LOST (R131, R118, R133). -/
def execPeerLost (peer : Nat) (s : State) : Host.Outcome State Fault Refusal := .next (peerLost peer s)

/-- RETURN_HOLD_EXPIRY (R135). -/
def execReturnHoldExpiry (peer : Nat) (s : State) : Host.Outcome State Fault Refusal :=
  .next (returnHoldExpired peer s)

/-- HEALTH_DEADLINE_PASSED (R139, R140). -/
def execHealthDeadlinePassed (s : State) : Host.Outcome State Fault Refusal := .next (deadlinePassed s)

/-- ORPHAN_TIMER_EXPIRY (R141). -/
def execOrphanTimerExpiry (s : State) : Host.Outcome State Fault Refusal := .next (orphanExpired s)

/-- SETTLE_TIMER_EXPIRY (R105). -/
def execSettleTimerExpiry (s : State) : Host.Outcome State Fault Refusal :=
  .next (if s.slc.phase = .settling && due s.slc.settleAt s.timebase then settled s else s)

/-- DRAIN_TIMER_EXPIRY (R110). -/
def execDrainTimerExpiry (s : State) : Host.Outcome State Fault Refusal :=
  .next (if s.slc.phase = .draining && due s.slc.drainAt s.timebase then linkDrained s else s)

/-- The retry timer has run out: enter SETTLING if wanted, otherwise OFF (R111). -/
def retryExpired (s : State) : State :=
  enterOff s

/-- RETRY_TIMER_EXPIRY (R111). -/
def execRetryTimerExpiry (s : State) : Host.Outcome State Fault Refusal :=
  .next (if s.slc.phase = .failed && due s.slc.retryAt s.timebase then retryExpired s else s)

end Sys2Proof.Machine
end

