-- ==== Sys2Proof/Machine/Dispatch.lean ====
section
/-! DEFINITION. The dispatch: one arm for each command, each one direct call of its meaning. -/

namespace Sys2Proof.Machine

/-- The effect of a command on everything but the queue. -/
def exec (i : Instr) (s : State) : Host.Outcome State Fault Refusal :=
  match i with
  | .powerOn pins => Sys2Proof.Machine.execPowerOn pins s
  | .restartCold sender target board => Sys2Proof.Machine.execRestartCold sender target board s
  | .restartWarm sender target board => Sys2Proof.Machine.execRestartWarm sender target board s
  | .restartPin board => Sys2Proof.Machine.execRestartPin board s
  | .waypoint sender leg => Sys2Proof.Machine.execWaypoint sender leg s
  | .waypointOrigin sender => Sys2Proof.Machine.execWaypointOrigin sender s
  | .claimHeard sender key => Sys2Proof.Machine.execClaimHeard sender key s
  | .releaseHeard sender msg => Sys2Proof.Machine.execReleaseHeard sender msg s
  | .linkCarryHeard sender link hold => Sys2Proof.Machine.execLinkCarryHeard sender link hold s
  | .linkDrainHeard sender link hold => Sys2Proof.Machine.execLinkDrainHeard sender link hold s
  | .linkDownHeard sender link hold failed => Sys2Proof.Machine.execLinkDownHeard sender link hold failed s
  | .beaconHeard sender msg => Sys2Proof.Machine.execBeaconHeard sender msg s
  | .tableOpen sender msg => Sys2Proof.Machine.execTableOpen sender msg s
  | .tableData sender row => Sys2Proof.Machine.execTableData sender row s
  | .drainRequest sender msg => Sys2Proof.Machine.execDrainRequest sender msg s
  | .query sender target => Sys2Proof.Machine.execQuery sender target s
  | .billHeard sender => Sys2Proof.Machine.execBillHeard sender s
  | .drainEndHeard sender => Sys2Proof.Machine.execDrainEndHeard sender s
  | .reportHeard sender => Sys2Proof.Machine.execReportHeard sender s
  | .frameReceiveError check => Sys2Proof.Machine.execFrameReceiveError check s
  | .frameStart => Sys2Proof.Machine.execFrameStart s
  | .arbitrationLost => Sys2Proof.Machine.execArbitrationLost s
  | .lineLost => Sys2Proof.Machine.execLineLost s
  | .frameSent disturbed => Sys2Proof.Machine.execFrameSent disturbed s
  | .beaconTime => Sys2Proof.Machine.execBeaconTime s
  | .listenPeriodEnd => Sys2Proof.Machine.execListenPeriodEnd s
  | .dwellExpiry => Sys2Proof.Machine.execDwellExpiry s
  | .slipFlagExpiry => Sys2Proof.Machine.execSlipFlagExpiry s
  | .departureExpiry => Sys2Proof.Machine.execDepartureExpiry s
  | .peerQuiet peer => Sys2Proof.Machine.execPeerQuiet peer s
  | .peerLost peer => Sys2Proof.Machine.execPeerLost peer s
  | .returnHoldExpiry peer => Sys2Proof.Machine.execReturnHoldExpiry peer s
  | .healthDeadlinePassed => Sys2Proof.Machine.execHealthDeadlinePassed s
  | .orphanTimerExpiry => Sys2Proof.Machine.execOrphanTimerExpiry s
  | .settleTimerExpiry => Sys2Proof.Machine.execSettleTimerExpiry s
  | .drainTimerExpiry => Sys2Proof.Machine.execDrainTimerExpiry s
  | .retryTimerExpiry => Sys2Proof.Machine.execRetryTimerExpiry s
  | .radioSilenceExpiry => Sys2Proof.Machine.execRadioSilenceExpiry s
  | .terminalSilenceExpiry => Sys2Proof.Machine.execTerminalSilenceExpiry s
  | .channelBreak channel => Sys2Proof.Machine.execChannelBreak channel s
  | .channelMessageError channel error => Sys2Proof.Machine.execChannelMessageError channel error s
  | .channelOverrun channel => Sys2Proof.Machine.execChannelOverrun channel s
  | .attach key home services => Sys2Proof.Machine.execAttach key home services s
  | .detach key => Sys2Proof.Machine.execDetach key s
  | .usage key data voice => Sys2Proof.Machine.execUsage key data voice s
  | .health => Sys2Proof.Machine.execHealth s
  | .hold => Sys2Proof.Machine.execHold s
  | .statusUp => Sys2Proof.Machine.execStatusUp s
  | .statusDown => Sys2Proof.Machine.execStatusDown s
  | .statusIdle => Sys2Proof.Machine.execStatusIdle s
  | .quality score => Sys2Proof.Machine.execQuality score s
  | .radioHoldLineAsserted => Sys2Proof.Machine.execRadioHoldLineAsserted s
  | .radioHoldLineReleased => Sys2Proof.Machine.execRadioHoldLineReleased s
  | .terminalHoldLineChange asserted => Sys2Proof.Machine.execTerminalHoldLineChange asserted s
  | .directiveSent channel => Sys2Proof.Machine.execDirectiveSent channel s
  | .restartIgnored sender msg => Sys2Proof.Machine.execRestartIgnored sender msg s
  | .malformedLinkFrame sender => Sys2Proof.Machine.execMalformedLinkFrame sender s
  | .markHoldAfterRestartEnd channel => Sys2Proof.Machine.execMarkHoldAfterRestartEnd channel s

end Sys2Proof.Machine
end

