-- ==== Sys2Proof/Decode.lean ====
section
/-! DEFINITION. From bits to commands. `decodeTableWord` answers for the rows to which spec/opcode_table.json gives bits:
there are none. Beside it stand the decoders the manual does give: a frame of the deck bus (R162, Tables 12.1 to 12.5,
R195) and a good message of a local channel (R177, R196, Tables 12.9 and 12.10). -/

namespace Sys2Proof

open Machine

/-- The command that a word of the table spells: the table gives no row any bits. -/
def decodeTableWord (_nbits _w : Nat) : Option Instr := none

/-! ## Frames of the deck bus -/

/-- A BEACON's content from its payload (Table 12.5); a place of the cover set that holds 0 is not used. -/
def beaconOf (bs : List Byte) : BeaconMsg :=
  { serving := servingOf (field bs 0 1), slip := bitAt bs 0 2, radioFault := bitAt bs 0 3, storeHigh := bitAt bs 0 4
    configFault := bitAt bs 0 5, hold := bitAt bs 0 6, openCount := field bs 1 1, leg := field bs 2 1
    voyage := field bs 3 1, linkId := field bs 4 1 % 8, phase := phaseOf (field bs 4 1 / 16)
    cover := ([5, 6, 7, 8].map (fun i => field bs i 1)).filter (fun n => n != 0) }

/-- A RELEASE's content from its payload (Table 12.4). -/
def releaseOf (bs : List Byte) : ReleaseMsg :=
  ⟨field bs 0 5, field bs 5 1, field bs 6 3, bitAt bs 9 0, field bs 10 1⟩

/-- A LINK frame by its announcement (Table 12.4, R195). -/
def linkCommand (sender : Nat) (bs : List Byte) : Instr :=
  let link := field bs 0 1 % 8
  let hold := bitAt bs 0 7
  match field bs 1 1 % 4 with
  | 1 => .linkCarryHeard sender link hold
  | 2 => .linkDrainHeard sender link hold
  | 3 => .linkDownHeard sender link hold (bitAt bs 1 7)
  | _ => .malformedLinkFrame sender

/-- A RESTART frame of full length by its target and kind at a station of this number (R189). -/
def restartCommand (own : Nat) (board : Board) (sender : Nat) (bs : List Byte) : Instr :=
  let target := field bs 0 1
  let kind := field bs 1 1
  if (target = own ∨ target = 0) ∧ kind = warmCode then .restartWarm sender target board
  else if (target = own ∨ target = 0) ∧ kind = coldCode then .restartCold sender target board
  else .restartIgnored sender (some (target, kind))

/-- The payload where it is as long as its layout (R195). -/
def laidOut (len : Nat) (bs : List Byte) : Option (List Byte) := if len ≤ bs.length then some bs else none

/-- An accepted frame's command, by its kind and payload (Table 9.3, R195). `board` is what a restart would read. -/
def frameCommand (own : Nat) (board : Board) (sender : Nat) (kind : Kind) (bs : List Byte) : Instr :=
  match kind with
  | .waypoint =>
    match laidOut 2 bs with
    | none => .waypoint sender none
    | some p => if bitAt p 1 0 then .waypointOrigin sender else .waypoint sender (some (field p 0 1))
  | .restart =>
    match laidOut 2 bs with
    | none => .restartIgnored sender none
    | some p => restartCommand own board sender p
  | .claim => .claimHeard sender ((laidOut 5 bs).map (fun p => field p 0 5))
  | .release => .releaseHeard sender ((laidOut 11 bs).map releaseOf)
  | .link =>
    match laidOut 2 bs with
    | none => .malformedLinkFrame sender
    | some p => linkCommand sender p
  | .beacon => .beaconHeard sender ((laidOut 9 bs).map beaconOf)
  | .tableOpen => .tableOpen sender ((laidOut 3 bs).map (fun p => ⟨field p 0 1, field p 1 1, field p 2 1⟩))
  | .tableData => .tableData sender bs
  | .drainRequest => .drainRequest sender ((laidOut 2 bs).map (fun p => (field p 0 1, field p 1 1)))
  | .bill => .billHeard sender
  | .drainEnd => .drainEndHeard sender
  | .query => .query sender ((laidOut 1 bs).map (fun p => field p 0 1))
  | .report => .reportHeard sender

/-- `count` bytes from place `i`, a byte not sent taken as recessive ones (R162). -/
def taken (bs : List Byte) (i count : Nat) : List Byte := (List.range count).map (fun j => bs.getD (i + j) 0xFF#8)

/-- A frame as a receiver takes it in: the five checks in order, then its command (R162). -/
def decodeFrame (own : Nat) (board : Board) (bs : List Byte) : Instr :=
  let header := field bs 0 2
  let len := field bs 2 1
  let sender := header / 64 % 32
  if Config.maxPayload < len then .frameReceiveError .length
  else if BitVec.ofNat 16 (field bs (3 + len) 2) ≠ checkwordFrom 0 (taken bs 0 (3 + len)) then
    .frameReceiveError .checkword
  else if sender = 0 then .frameReceiveError .senderZero
  else
    match Kind.ofCode (header % 64) with
    | none => .frameReceiveError .unknownKind
    | some kind =>
      if header / 8192 ≠ kind.cls then .frameReceiveError .classField
      else frameCommand own board sender kind (taken bs 3 len)

/-! ## Messages of the local channels -/

/-- A message of the right length goes on, any other is an error (R177). -/
def ofLength (len : Nat) (bs : List Byte) (i : Instr) : Except MessageError Instr :=
  if bs.length = len then .ok i else .error .wrongLength

/-- A good message from the radio head, by Table 12.9 (R177, R196). -/
def radioMessage (type : Nat) (bs : List Byte) : Except MessageError Instr :=
  match type with
  | 1 => ofLength 9 bs (.attach (field bs 0 5) (field bs 5 3) (servicesOf (field bs 8 1)))
  | 2 => ofLength 5 bs (.detach (field bs 0 5))
  | 3 =>
    if bs.length = 10 ∧ 65535 < field bs 5 3 then .error .outOfRange
    else ofLength 10 bs (.usage (field bs 0 5) (field bs 5 3) (field bs 8 2))
  | 4 => ofLength 0 bs .health
  | 5 => ofLength 0 bs .hold
  | _ => .error .unknownType

/-- The STATUS a value names (Table 12.10). -/
def statusMessage (n : Nat) : Except MessageError Instr :=
  match n with
  | 1 => .ok .statusUp
  | 2 => .ok .statusDown
  | 3 => .ok .statusIdle
  | _ => .error .outOfRange

/-- A good message from the terminal, by Table 12.10 (R177, R196). -/
def terminalMessage (type : Nat) (bs : List Byte) : Except MessageError Instr :=
  match type with
  | 0x11 => if bs.length = 1 then statusMessage (field bs 0 1) else .error .wrongLength
  | 0x12 =>
    if bs.length = 1 then
      if field bs 0 1 ≤ 63 then .ok (.quality (field bs 0 1)) else .error .outOfRange
    else .error .wrongLength
  | _ => .error .unknownType

/-- The command that a good message brings about: its own, or the error it is counted as (R177). -/
def messageCommand (ch : Channel) (type : Nat) (bs : List Byte) : Instr :=
  match (match ch with | .radio => radioMessage type bs | .terminal => terminalMessage type bs) with
  | .ok i => i
  | .error e => .channelMessageError ch e

end Sys2Proof
end

