-- ==== Sys2Proof/Machine/Wire.lean ====
section
/-! DEFINITION. The ports as bytes and bits: what the part puts out (the frame on the line, a directive), and how the
characters of a local channel and the frames of the deck bus, as they come in, become commands. No row of the table is
one character or one byte: these operations are the surroundings' way to the commands (assumption 22). -/

namespace Sys2Proof.Machine

/-! ## Characters (R175) -/

/-- The strapped mode of both channels (R175, R187). -/
structure CharMode where
  rate        : LocalRate
  parity      : Bool
  twoStopBits : Bool
deriving DecidableEq, Repr

/-- The mode the straps give (R187). -/
def State.charMode (s : State) : CharMode :=
  ⟨s.cfg.straps.localRate, s.cfg.straps.parity, s.cfg.straps.twoStopBits⟩

/-- The parity bit that makes the ones of a byte and itself even (R175). -/
def evenParity (b : Byte) : Bool := (List.range 8).foldl (fun p i => p != b.getLsbD i) false

/-- A character as the line's levels, bit time by bit time, mark as `true`: a start bit at space, the data bits, least
significant first, the parity bit where parity is on, and the stop bits at mark (R175). -/
def CharMode.levels (m : CharMode) (b : Byte) : List Bool :=
  false :: (List.range 8).map b.getLsbD ++ (if m.parity then [evenParity b] else []) ++
    (if m.twoStopBits then [true, true] else [true])

/-- Bit times of a character: 10, 11 or 12 (R175). -/
def CharMode.bitTimes (m : CharMode) : Nat := 10 + m.parity.toNat + m.twoStopBits.toNat

/-- A strapped local rate in bit/s (R187). -/
def localBitsPerSecond : LocalRate → Nat
  | .bit19200 => 19200
  | .bit38400 => 38400
  | .bit57600 => 57600
  | .bit115200 => 115200

/-- A character time, in 115,200ths of a second, of which every strapped rate makes whole numbers (R175). -/
def CharMode.characterTime (m : CharMode) : Nat := m.bitTimes * (115200 / localBitsPerSecond m.rate)

/-! ## Out: directives (R175, Tables 12.9 and 12.10) -/

/-- A message or directive in its frame: start byte, type, length, payload, checkbyte (R175). -/
def channelFrame (type : Nat) (payload : List Byte) : List Byte :=
  let body := 0x7E#8 :: BitVec.ofNat 8 type :: BitVec.ofNat 8 payload.length :: payload
  body ++ [body.foldl (· ^^^ ·) 0#8]

/-- A radio directive as its characters (Table 12.9). -/
def radioDirectiveBytes : RadioDirective → List Byte
  | .admitSub key v => channelFrame 0x41 (bytesOf 5 key ++ bytesOf 1 (servicesCode v))
  | .refuse key r => channelFrame 0x42 (bytesOf 5 key ++ bytesOf 1 (refuseCode r))
  | .bar key => channelFrame 0x43 (bytesOf 5 key)
  | .unbar key => channelFrame 0x44 (bytesOf 5 key)
  | .releaseSub key => channelFrame 0x45 (bytesOf 5 key)
  | .cover p on => channelFrame 0x46 (bytesOf 1 p ++ bytesOf 1 (flagBit on 0))
  | .dataGate isOpen => channelFrame 0x47 (bytesOf 1 (flagBit isOpen 0))
  | .dormant => channelFrame 0x48 []
  | .identity code => channelFrame 0x49 (bytesOf 3 code)
  | .wake => channelFrame 0x4A []

/-- A terminal directive as its characters (Table 12.10). -/
def terminalDirectiveBytes : TerminalDirective → List Byte
  | .activate => channelFrame 0x51 []
  | .deactivate => channelFrame 0x52 []
  | .carryOn => channelFrame 0x53 []
  | .carryOff => channelFrame 0x54 []

/-- A directive as the levels of its characters, one after another without gaps (R175). -/
def directiveLevels (m : CharMode) (bs : List Byte) : List Bool := bs.flatMap m.levels

/-- The levels of the directive that the radio transmitter is sending, if any (R175, R181). -/
def State.radioLine (s : State) : Option (List Bool) :=
  if s.rch.sending then s.rch.queue.head?.map (fun d => directiveLevels s.charMode (radioDirectiveBytes d)) else none

/-- The levels of the directive that the terminal transmitter is sending, if any (R175, R181). -/
def State.terminalLine (s : State) : Option (List Bool) :=
  if s.tch.sending then s.tch.queue.head?.map (fun d => directiveLevels s.charMode (terminalDirectiveBytes d)) else none

/-! ## Out: the frame on the line (R160, R171) -/

/-- A class-1 frame's kind and payload (Table 12.4). -/
def class1Payload : Class1 → Kind × List Byte
  | .claim key => (.claim, bytesOf 5 key)
  | .release m => (.release, releaseBytes m)

/-- The kind, deferral and payload of the frame a queue has to offer. -/
def Dbi.content (d : Dbi) (q : TxQueue) : Option (Kind × Nat × List Byte) :=
  match q with
  | .class1 => d.class1.head?.map (fun w => ((class1Payload w.frame).1, w.deferral, (class1Payload w.frame).2))
  | .link => d.link.map (fun w => (.link, w.deferral, linkBytes w.frame))
  | .beacon => d.beacon.bind (fun w => w.frame.map (fun m => (.beacon, w.deferral, beaconBytes m)))
  | .bill => d.bill.map (fun w => (.bill, w.deferral, billBytes w.frame))
  | .drainEnd => d.drainEnd.map (fun w => (.drainEnd, w.deferral, drainEndBytes w.frame))
  | .report => d.reports.head?.map (fun w => (.report, w.deferral, reportBytes w.frame))

/-- The bytes of the frame on the line, if the part has one there (R160). -/
def State.lineBytes (s : State) : Option (List Byte) :=
  (s.dbi.onLine.bind s.dbi.content).map (fun c => frameBytes c.1 c.2.1 s.own c.2.2)

/-- A strapped bus rate in kbit/s: the length of a bit time (R160, R187). -/
def busKbitsPerSecond : BusRate → Nat
  | .kbit250 => 250
  | .kbit500 => 500
  | .kbit1000 => 1000
  | .kbit2000 => 2000

/-- A frame as the bits on the line, dominant as `false` (R162, R164): one dominant start bit, then the bytes, most
significant bit first (R160). -/
def frameBits (bs : List Byte) : List Bool := false :: bs.flatMap (fun b => (List.range 8).map b.getMsbD)

/-! ## In: characters of a local channel (R176) -/

/-- What a receiver sees: a character, one with a parity or a framing error, or a gap of 8 character times. -/
inductive CharEvent where
  | char (b : Byte)
  | badParity
  | badFraming
  | gap
deriving DecidableEq, Repr

/-- The character that the levels of one character time show: a framing error where the first stop bit is at space, a
parity error, where parity is on, where the parity bit is not even (R175, R176). Levels not given are at mark. -/
def CharMode.read (m : CharMode) (levels : List Bool) : CharEvent :=
  let b := BitVec.ofNat 8 ((List.range 8).map (fun i => flagBit (levels.getD (i + 1) true) i)).sum
  if levels.getD (if m.parity then 10 else 9) true = false then .badFraming
  else if m.parity && levels.getD 9 true != evenParity b then .badParity
  else .char b

/-- What a receiver makes of a message: good, of this type and payload; an error; an overrun (R176). -/
inductive RxEvent where
  | good (type : Nat) (payload : List Byte)
  | bad (e : MessageError)
  | tooLong
deriving DecidableEq, Repr

/-- A character while hunting: the start byte begins a message, any other is discarded without count (R176). -/
def huntChar (b : Byte) : Receiver := if b = 0x7E#8 then .taking [b] else .hunting

/-- A character within a message (R176): it may overrun, complete the message, or join it. -/
def messageChar (bs : List Byte) (b : Byte) : Receiver × Option RxEvent :=
  let len := (bs.getD 2 0#8).toNat
  if 3 ≤ bs.length ∧ Config.maxMessage < len ∧ 3 + Config.maxMessage ≤ bs.length then (huntChar b, some .tooLong)
  else if 3 ≤ bs.length ∧ bs.length = 3 + len then
    if bs.foldl (· ^^^ ·) 0#8 = b then (.hunting, some (.good (bs.getD 1 0#8).toNat (bs.drop 3)))
    else (.hunting, some (.bad .checkbyte))
  else (.taking (bs ++ [b]), none)

/-- A receiver takes what it sees (R176); while hunting, errors and gaps have no message to discard, and where parity is
off there is no parity error. A character in error met while hunting begins no message, whatever its value, and is not
counted; the manual does not say whether one of value 0x7E does (assumption 34, DESIGN CHOICE). -/
def receive (m : CharMode) (r : Receiver) (e : CharEvent) : Receiver × Option RxEvent :=
  match r, e with
  | .hunting, .char b => (huntChar b, none)
  | .hunting, _ => (.hunting, none)
  | .taking bs, .char b => messageChar bs b
  | .taking bs, .badParity => if m.parity then (.hunting, some (.bad .parity)) else (.taking bs, none)
  | .taking _, .badFraming => (.hunting, some (.bad .framing))
  | .taking _, .gap => (.hunting, some (.bad .gap))

/-- The command that a receiver's event brings about. -/
def rxCommand (ch : Channel) : RxEvent → Instr
  | .good type payload => messageCommand ch type payload
  | .bad e => .channelMessageError ch e
  | .tooLong => .channelOverrun ch

/-- A channel's receiver. -/
def State.receiver (s : State) : Channel → Receiver
  | .radio => s.rch.receiver
  | .terminal => s.tch.receiver

/-- Set a channel's receiver. -/
def setReceiver (ch : Channel) (r : Receiver) (s : State) : State :=
  match ch with
  | .radio => { s with rch := { s.rch with receiver := r } }
  | .terminal => { s with tch := { s.tch with receiver := r } }

/-- The state after a command. -/
def afterCommand (c : Instr) (s : State) : State :=
  match exec c s with
  | .next t => t
  | .fault _ => s
  | .refused _ => s

/-- The state after every command that waits, front first. -/
def runWaiting (s : State) : State := s.pending.foldl (fun t c => afterCommand c t) { s with pending := [] }

/-- A channel's receiver takes what it sees, after every command that waits, since a block's handling is complete before
the receiver hands on the next message (R177); the command that it makes is run in the same event, and the receiver is
left as R176 says. A terminal channel held off takes in nothing (R180). -/
def takeCharacter (ch : Channel) (e : CharEvent) (s : State) : State :=
  let s0 := runWaiting s
  if ch = .terminal ∧ s0.isTerminal = false then s0
  else
    let r := receive s0.charMode (s0.receiver ch) e
    setReceiver ch r.1 (match r.2 with | none => s0 | some x => afterCommand (rxCommand ch x) s0)

/-- The levels of one character come in at a channel. -/
def takeLevels (ch : Channel) (levels : List Bool) (s : State) : State :=
  takeCharacter ch ((runWaiting s).charMode.read levels) s

/-- A frame of another station is taken in as its bytes came (R162), after every command that waits, since every step of a
frame's handling is complete before the next is taken in (R163): it is read under the number the station then has, and its
command is run in the same event. -/
def takeFrame (board : Board) (bs : List Byte) (s : State) : State :=
  let s0 := runWaiting s
  afterCommand (decodeFrame s0.own board bs) s0

end Sys2Proof.Machine
end

