-- ==== Sys2Proof/Machine/Step.lean ====
section
/-! DEFINITION. One step: the command at the front of the queue is taken; with none waiting, one millisecond passes. -/

namespace Sys2Proof.Machine

/-- One millisecond of the timebase (R191): what an empty queue does. DESIGN CHOICE (assumption 2): no row of the table
is a millisecond. -/
def tick (s : State) : State := { s with timebase := (s.timebase + 1) % Config.timebaseModulus }

/-- One step: `exec` of the command at the front with the rest of the queue, or a millisecond where none waits. -/
def step (s : State) : Host.Outcome State Fault Refusal :=
  match s.pending with
  | [] => .next (tick s)
  | c :: rest => exec c { s with pending := rest }

/-- The command a table word spells, put at the front of the queue; the table gives no row any bits, so no word spells
one and `s` is unchanged (assumption 3). -/
def State.withFetchWord (s : State) (nbits w : Nat) : State :=
  match decodeTableWord nbits w with
  | none => s
  | some c => { s with pending := c :: s.pending }

end Sys2Proof.Machine
end

