-- ==== Sys2Proof/Safety.lean ====
section
/-! DEFINITION. What counts as a safe machine: the laws the manual states of the state as it stands between two commands,
each named for its rule, and `Touches`, which says which blocks a step may have changed. -/

namespace Sys2Proof.Machine

/-! ## Frames -/

/-- The blocks of State, for saying which of them a step leaves alone. `pins` is the two hold lines' levels; `rch` goes
with the radio-fault flag. -/
inductive Block where
  | pending | timebase | pins | sub | hov | bsd | rtk | slc | prc | tbl | dbi | rch | tch | cfg
deriving DecidableEq, Repr

/-- Block `b` is the same in both states. -/
def Block.same (b : Block) (s t : State) : Prop :=
  match b with
  | .pending => t.pending = s.pending
  | .timebase => t.timebase = s.timebase
  | .pins => t.radioHold = s.radioHold ∧ t.terminalHold = s.terminalHold
  | .sub => t.sub = s.sub
  | .hov => t.hov = s.hov
  | .bsd => t.bsd = s.bsd
  | .rtk => t.rtk = s.rtk
  | .slc => t.slc = s.slc
  | .prc => t.prc = s.prc
  | .tbl => t.tbl = s.tbl
  | .dbi => t.dbi = s.dbi
  | .rch => t.rch = s.rch ∧ t.radioFault = s.radioFault
  | .tch => t.tch = s.tch
  | .cfg => t.cfg = s.cfg

/-- Every block outside the list is the same in `t` as in `s`. -/
def Touches (bs : List Block) (s t : State) : Prop := ∀ b, b ∉ bs → b.same s t

/-! ## Laws of the state between two commands -/

/-- The leg counter is below L whenever L is above 0 and is 0 whenever L is 0 (R83). -/
def LegLaw (s : State) : Prop :=
  (s.tbl.route.length = 0 → s.rtk.leg = 0) ∧ (s.tbl.route.length ≠ 0 → s.rtk.leg < s.tbl.route.length)

/-- The zone, the plan pair and the silence status held are those the leg and the tables imply (R82, R83, R93). -/
def RouteHeld (s : State) : Prop :=
  s.rtk.zone = s.derivedZone ∧ s.rtk.planLink = s.derivedPlan ∧ s.rtk.nextPlanLink = s.derivedNextPlan ∧
    s.rtk.silent = s.derivedSilent

/-- The data gate is open when a carrier is known and the shore hold is clear, and closed otherwise (R121); with no carrier
the shore hold is clear (R119). -/
def GateLaw (s : State) : Prop :=
  s.slc.gateOpen = s.gateCondition ∧ (s.slc.view = none → s.slc.shoreHold = false)

/-- The attach order holds each open slot once, the closing order each CLOSING slot once (R5), of 96 slots (1.1). -/
def OrdersLaw (s : State) : Prop :=
  s.sub.slots.length = Config.slotCount ∧ s.sub.attachOrder.Nodup ∧ s.sub.closingOrder.Nodup ∧
    (∀ i, i ∈ s.sub.attachOrder ↔ (s.slot i).isOpen = true) ∧
    (∀ i, i ∈ s.sub.closingOrder ↔ (s.slot i).isClosing = true)

/-- K is within its ceiling, and the entry is BARRED exactly when C is not 0 and K equals C (R40). -/
def Entry.CapLaw (e : Entry) : Prop :=
  e.k ≤ ceilingOf e.cap ∧ (e.state = .barred ↔ e.cap ≠ 0 ∧ e.k = e.cap)

/-- Every open entry keeps the law of R40. -/
def CapLaw (s : State) : Prop := ∀ e, Slot.opened e ∈ s.sub.slots → e.CapLaw

/-- The key of an open slot. -/
def Slot.openKey? : Slot → Option Nat
  | .opened e => some e.key
  | _ => none

/-- No key is open twice (R5). -/
def KeysLaw (s : State) : Prop := (s.sub.slots.filterMap Slot.openKey?).Nodup

/-- Every open entry's partner row is not empty, not suspended, and permits the current zone (R89). -/
def PartnerLaw (s : State) : Prop :=
  ∀ e, Slot.opened e ∈ s.sub.slots → (s.partnerRow e.partner).fails s.rtk.zone = false

/-- While STARTING or DORMANT no entry is open (R21, R95, R125), and outside SERVING the cover set is empty (R125, R136). -/
def ServingLaw (s : State) : Prop :=
  (s.prc.serving = .starting ∨ s.prc.serving = .dormant → s.sub.attachOrder = []) ∧
    (s.prc.serving ≠ .serving → s.prc.cover = [])

/-- CLOSING slots wait only while the store is full (R17, R19). -/
def ClosingLaw (s : State) : Prop := s.sub.closingOrder ≠ [] → s.bsd.store.length = Config.storePlaces

/-- The key of a waiting CLAIM. -/
def claimKey? (w : Waiting Class1) : Option Nat :=
  match w.frame with
  | .claim k => some k
  | .release _ => none

/-- The pending claims are the keys of the CLAIMs waiting in class 1, none twice; and an open entry's own-claim-pending flag
is set exactly while its key is pending (R47 to R49). -/
def ClaimsLaw (s : State) : Prop :=
  s.hov.pendingClaims = s.dbi.class1.filterMap claimKey? ∧ s.hov.pendingClaims.Nodup ∧
    (∀ e, Slot.opened e ∈ s.sub.slots → (e.claimPending = true ↔ e.key ∈ s.hov.pendingClaims))

/-- The departure list holds at most 32 entries, no key twice, and no key that is open (R59, R61). -/
def DeparturesLaw (s : State) : Prop :=
  s.hov.departures.length ≤ Config.departurePlaces ∧ (s.hov.departures.map Departure.key).Nodup ∧
    (∀ e, Slot.opened e ∈ s.sub.slots → e.key ∉ s.hov.departures.map Departure.key)

/-- A phase past SETTLING has the terminal channel UP (R107), a phase is activated exactly where R111 says, and a timer runs
exactly in its phase (Table 6.1); NONE is the phase of a station that is no terminal station (R100). -/
def PhaseLaw (s : State) : Prop :=
  (s.slc.phase = .none ↔ s.isTerminal = false) ∧
    s.slc.activated = activatedPhase s.slc.phase ∧
    (activatedPhase s.slc.phase = true → s.slc.phase ≠ .settling → s.tch.up = true) ∧
    (s.slc.settleAt.isSome = true ↔ s.slc.phase = .settling) ∧
    (s.slc.drainAt.isSome = true ↔ s.slc.phase = .draining) ∧
    (s.slc.retryAt.isSome = true ↔ s.slc.phase = .failed)

/-- A BILL and a DRAIN-END never wait together (R77); a pending BILL carries the head of the store, in a drain RUNNING
(R75); the DRAIN-END is queued only in ENDING (R77). -/
def DrainLaw (s : State) : Prop :=
  (s.dbi.bill = none ∨ s.dbi.drainEnd = none) ∧
    (∀ w, s.dbi.bill = some w → s.bsd.store.head? = some w.frame) ∧
    (s.dbi.bill.isSome = true → ∃ r n, s.bsd.drain = .running r n) ∧
    (s.dbi.drainEnd.isSome = true → ∃ n w, s.bsd.drain = .ending n w)

/-- Every queue and the store hold no more than their places (R68, R169, R172, R181). -/
def PlacesLaw (s : State) : Prop :=
  s.bsd.store.length ≤ Config.storePlaces ∧ s.dbi.class1.length ≤ Config.class1Places ∧
    s.dbi.reports.length ≤ Config.reportPlaces ∧ s.rch.queue.length ≤ Config.radioPlaces ∧
    s.tch.queue.length ≤ Config.terminalPlaces

/-- A waiting frame's deferral is within 0..3 (R165). -/
def Waiting.Bounded {α : Type} (w : Waiting α) : Prop := w.deferral ≤ Config.maxDeferral

/-- A pending frame's arbitration deferral stays within 0..3 (R165). -/
def DeferralLaw (s : State) : Prop :=
  (∀ w ∈ s.dbi.class1, w.Bounded) ∧ (∀ w, s.dbi.link = some w → w.Bounded) ∧
    (∀ w, s.dbi.linkBeside = some w → w.Bounded) ∧ (∀ w, s.dbi.beacon = some w → w.Bounded) ∧
    (∀ w, s.dbi.bill = some w → w.Bounded) ∧ (∀ w, s.dbi.drainEnd = some w → w.Bounded) ∧
    (∀ w ∈ s.dbi.reports, w.Bounded)

/-- A listen-only station queues no frame, has none on the line, stays STARTING and covers no one (R128, R174). -/
def ListenOnlyLaw (s : State) : Prop :=
  s.own = 0 → s.prc.serving = .starting ∧ s.prc.listenUntil = none ∧ s.prc.cover = [] ∧ s.dbi.class1 = [] ∧
    s.dbi.link = none ∧ s.dbi.linkBeside = none ∧ s.dbi.beacon = none ∧ s.dbi.bill = none ∧ s.dbi.drainEnd = none ∧
    s.dbi.reports = [] ∧ s.dbi.onLine = none

/-- The timers of the serving states run only in their states: the listen timer in STARTING (R125, R127), the dwell and the
pending wake in DORMANT (R95 to R97), the orphan timer in DARK (R141), the beacon schedule outside STARTING (R129). -/
def TimersLaw (s : State) : Prop :=
  (s.prc.listenUntil.isSome = true → s.prc.serving = .starting) ∧
    (s.own ≠ 0 → s.prc.serving = .starting → s.prc.listenUntil.isSome = true) ∧
    (s.prc.dwellUntil.isSome = true → s.prc.serving = .dormant) ∧
    (s.prc.pendingWake = true → s.prc.serving = .dormant) ∧
    (s.prc.orphanAt.isSome = true → s.prc.serving = .dark) ∧
    (s.prc.nextBeacon.isSome = true ↔ s.prc.serving ≠ .starting)

/-- The roster holds each station number 1 to 31 but the station's own, in order, and marks as neighbours those of the
neighbour list (section 7.4, R132). -/
def RosterLaw (s : State) : Prop :=
  s.prc.roster.map Peer.station = (List.range' 1 31).filter (fun n => n != s.own) ∧
    ∀ p ∈ s.prc.roster, p.neighbour = s.cfg.neighbours.contains p.station

/-- The cover set holds no station twice; each member is a neighbour that is failed, or that is not and whose return hold
runs (R133, R134); and a SERVING station holds every failed neighbour in it (R133). -/
def CoverLaw (s : State) : Prop :=
  (s.prc.cover.map CoverMember.station).Nodup ∧
    (∀ m ∈ s.prc.cover, ∃ p ∈ s.prc.roster,
      p.station = m.station ∧ p.neighbour = true ∧ (p.failed = true ↔ m.holdUntil = none)) ∧
    (s.prc.serving = .serving → ∀ p ∈ s.prc.roster, p.neighbour = true → p.failed = true → s.covers p.station = true)

end Sys2Proof.Machine
end

