-- ==== Sys2Proof/WellFormed.lean ====
section
/-! DEFINITION. Which commands can come from the ports at all: every operand inside the range its field can carry
(0.7.5, Chapter 12) or its pins can show (R187, R188). The machine itself is total: it needs none of this. -/

namespace Sys2Proof

/-- A sender that an accepted frame can carry: not 0 (R162), five bits (Table 12.1). -/
def senderOk (n : Nat) : Bool := 1 ≤ n && n ≤ 31

/-- A number that fits `bits` bits. -/
def fits (bits n : Nat) : Bool := n < 2 ^ bits

/-- Strap values as the pins can give them (R187). -/
def Straps.wf (p : Straps) : Bool := fits 5 p.station && fits 3 p.linkId

/-- The configuration memory's record is eight bytes (R188). -/
def Board.wf (b : Board) : Bool := b.straps.wf && b.memory.all (fun m => m.length == 8)

/-- A RELEASE payload as its bytes can carry it (Table 12.4). -/
def ReleaseMsg.wf (m : ReleaseMsg) : Bool :=
  fits 40 m.key && fits 8 m.claimant && fits 24 m.charge && fits 8 m.voyage

/-- A BEACON payload as its bytes can carry it (Table 12.5): a cover set of station numbers, none of them 0. -/
def BeaconMsg.wf (m : BeaconMsg) : Bool :=
  fits 8 m.openCount && fits 8 m.leg && fits 8 m.voyage && fits 3 m.linkId &&
    m.cover.length ≤ 4 && m.cover.all (fun p => 1 ≤ p && fits 8 p)

/-- A TABLE-OPEN payload as its bytes can carry it (Table 12.4). -/
def WindowMsg.wf (m : WindowMsg) : Bool := fits 8 m.table && fits 8 m.first && fits 8 m.last

/-- A command whose operands a port can bring. -/
def Instr.wf : Instr → Bool
  | .powerOn p => p.board.wf
  | .restartCold n t b => senderOk n && fits 8 t && b.wf
  | .restartWarm n t b => senderOk n && fits 8 t && b.wf
  | .restartPin b => b.wf
  | .waypoint n l => senderOk n && l.all (fits 8)
  | .waypointOrigin n => senderOk n
  | .claimHeard n k => senderOk n && k.all (fits 40)
  | .releaseHeard n m => senderOk n && m.all ReleaseMsg.wf
  | .linkCarryHeard n x _ => senderOk n && fits 3 x
  | .linkDrainHeard n x _ => senderOk n && fits 3 x
  | .linkDownHeard n x _ _ => senderOk n && fits 3 x
  | .beaconHeard n m => senderOk n && m.all BeaconMsg.wf
  | .tableOpen n m => senderOk n && m.all WindowMsg.wf
  | .tableData n r => senderOk n && r.length ≤ Config.maxPayload
  | .drainRequest n m => senderOk n && m.all (fun q => fits 8 q.1 && fits 8 q.2)
  | .query n t => senderOk n && t.all (fits 8)
  | .billHeard n => senderOk n
  | .drainEndHeard n => senderOk n
  | .reportHeard n => senderOk n
  | .frameReceiveError _ => true
  | .frameStart => true
  | .arbitrationLost => true
  | .lineLost => true
  | .frameSent _ => true
  | .beaconTime => true
  | .listenPeriodEnd => true
  | .dwellExpiry => true
  | .slipFlagExpiry => true
  | .departureExpiry => true
  | .peerQuiet p => senderOk p
  | .peerLost p => senderOk p
  | .returnHoldExpiry p => senderOk p
  | .healthDeadlinePassed => true
  | .orphanTimerExpiry => true
  | .settleTimerExpiry => true
  | .drainTimerExpiry => true
  | .retryTimerExpiry => true
  | .radioSilenceExpiry => true
  | .terminalSilenceExpiry => true
  | .channelBreak _ => true
  | .channelMessageError _ _ => true
  | .channelOverrun _ => true
  | .attach k h _ => fits 40 k && fits 24 h
  | .detach k => fits 40 k
  | .usage k d v => fits 40 k && fits 16 d && fits 16 v
  | .health => true
  | .hold => true
  | .statusUp => true
  | .statusDown => true
  | .statusIdle => true
  | .quality q => fits 6 q
  | .radioHoldLineAsserted => true
  | .radioHoldLineReleased => true
  | .terminalHoldLineChange _ => true
  | .directiveSent _ => true
  | .restartIgnored n m => senderOk n && m.all (fun q => fits 8 q.1 && fits 8 q.2)
  | .malformedLinkFrame n => senderOk n
  | .markHoldAfterRestartEnd _ => true

end Sys2Proof
end

