-- ==== Sys2Proof/Certificates/Slice0/Obligations.lean ====
section
/-! DEFINITION. The statements for the provers. Each names the rule it formalises; one that rests on a choice of the model
names the log entry. `hear n s` is the state in which a frame of station `n` has been heard (R163, first two steps), and
`radioGood`, `terminalGood` the state in which a good message has come in (R177). -/

open Sys2Proof Sys2Proof.Machine

/-! ## The machine -/

/-- A step takes the command at the front of the queue, with the queue's rest; with none waiting one millisecond of
the 48-bit timebase passes (R191; that an empty queue is a millisecond is the model's choice, log entry 2). -/
def Obligations.StepTakesTheFrontCommand : Prop :=
  (∀ (c : Instr) (rest : List Instr) (s : State),
    step { s with pending := c :: rest } = exec c { s with pending := rest }) ∧
  (∀ s : State, s.pending = [] → step s = .next { s with timebase := (s.timebase + 1) % 2 ^ 48 })

/-- Every command has an effect in every state: none ends in a fault or a refusal. None touches the queue of commands,
and none but POWER_ON moves the timebase (R191). -/
def Obligations.EveryCommandEndsInANextState : Prop :=
  ∀ (c : Instr) (s : State), ∃ t, exec c s = .next t ∧ t.pending = s.pending ∧
    ((∀ p, c ≠ .powerOn p) → t.timebase = s.timebase)

/-- Rules of the whole part: the voyage number changes only at a voyage start, at power-on and at RESTART COLD (R82,
R99); a row of the tables only at a TABLE-DATA, at power-on and at RESTART COLD (R146); the straps and the neighbour
list only at power-on and at a restart (R187, R188). -/
def Obligations.OnlyTheseCommandsReachVoyageTablesAndStraps : Prop :=
  ∀ (c : Instr) (s t : State), exec c s = .next t →
    (t.rtk.voyage ≠ s.rtk.voyage →
      (∃ n, c = .waypointOrigin n) ∨ (∃ p, c = .powerOn p) ∨ (∃ n x b, c = .restartCold n x b)) ∧
    ({ t.tbl with window := none, refusedOpens := 0, strayData := 0 } ≠
        { s.tbl with window := none, refusedOpens := 0, strayData := 0 } →
      (∃ n bs, c = .tableData n bs) ∨ (∃ p, c = .powerOn p) ∨ (∃ n x b, c = .restartCold n x b)) ∧
    ((t.cfg.straps, t.cfg.neighbours, t.cfg.configFault) ≠ (s.cfg.straps, s.cfg.neighbours, s.cfg.configFault) →
      (∃ p, c = .powerOn p) ∨ (∃ n x b, c = .restartCold n x b) ∨ (∃ n x b, c = .restartWarm n x b) ∨
        (∃ b, c = .restartPin b))

/-! ## Power-on and restarts (chapter 11) -/

/-- Power-on (R190, R191, Table 11.1; R22, R63, R80, R99, R122, R143, R159, R173, R186, R188): what each block is left
with. No channel has a time its silence is measured from (log entry 17). -/
def Obligations.PowerOnSetsEveryBlock : Prop :=
  ∀ (p : Pins) (s : State),
    let terminal := p.board.straps.terminalPresent && p.board.straps.station != 0
    ∃ t, exec (.powerOn p) s = .next t ∧
    t.timebase = 0 ∧ t.radioHold = p.radioHold ∧ t.terminalHold = p.terminalHold ∧
    t.cfg.straps = p.board.straps ∧ t.cfg.malformed = 0 ∧
    (t.cfg.neighbours, t.cfg.configFault) = readMemory p.board.straps.station p.board.memory ∧
    t.sub = ⟨List.replicate 96 .free, [], [], 0⟩ ∧ t.hov = ⟨[], [], 0, 0⟩ ∧ t.bsd = ⟨[], 0, 0, 0, .idle⟩ ∧
    t.rtk = ⟨0, 0, 0, 0, 0, false, 0, none, 0⟩ ∧
    t.slc = ⟨if terminal then .off else .none, false, none, 0, 0, none, none, p.terminalHold && terminal, none, false,
      false, 0⟩ ∧
    t.prc.serving = .starting ∧ t.prc.listenUntil = (if p.board.straps.station = 0 then none else some 2000) ∧
    t.prc.cover = [] ∧ t.prc.healthDeadline = none ∧ t.prc.holdUsed = false ∧ t.prc.refusedHolds = 0 ∧
    t.prc.nextBeacon = none ∧ t.prc.orphanAt = none ∧ t.prc.dwellUntil = none ∧ t.prc.pendingWake = false ∧
    RosterLaw t ∧ (∀ e ∈ t.prc.roster, e.state = .unheard ∧ e.lastHeard = none ∧ e.beacon = none) ∧
    t.tbl = ⟨List.replicate 8 0, List.replicate 32 ⟨0, 0, 0, 0⟩,
      List.replicate 64 ⟨0, 0, 0, ⟨false, false⟩, false, 0⟩, ⟨0, 0⟩, List.replicate 48 ⟨0, 0⟩,
      List.replicate 8 ⟨.terrestrial, 0, 0, 0, 0, 0⟩, List.replicate 4 ⟨0, 0, false⟩, none, 0, 0⟩ ∧
    t.dbi = ⟨[], none, none, none, none, none, [], none, 0, 0, 0, 0, 0, 0, 0, 0⟩ ∧
    t.rch = ⟨false, none, .hunting, 0, 0, 0, [.dormant], false, true⟩ ∧ t.radioFault = false ∧
    t.tch = ⟨false, none, .hunting, 0, 0, 0, [], false, true⟩

/-- The reading of the configuration memory, here at the restart pin (R188): rejected where the memory does not
answer, where byte 7 is not the XOR of bytes 0 to 6 and 0xA5, or where a neighbour byte is above 31 or the station's
own number; else the neighbour list is the bytes 0 to 3 that are not 0, in order. -/
def Obligations.NeighbourListComesFromTheMemory : Prop :=
  ∀ (straps : Straps) (s : State),
    (∃ t, exec (.restartPin ⟨straps, none⟩) s = .next t ∧ t.cfg.neighbours = [] ∧ t.cfg.configFault = true) ∧
    ∀ b0 b1 b2 b3 b4 b5 b6 b7 : Byte,
      ∃ t, exec (.restartPin ⟨straps, some [b0, b1, b2, b3, b4, b5, b6, b7]⟩) s = .next t ∧
        (t.cfg.configFault = true ↔
          b7 ≠ b0 ^^^ b1 ^^^ b2 ^^^ b3 ^^^ b4 ^^^ b5 ^^^ b6 ^^^ 0xA5#8 ∨
            ∃ b ∈ [b0, b1, b2, b3], 31 < b.toNat ∨ (straps.station ≠ 0 ∧ b.toNat = straps.station)) ∧
        t.cfg.neighbours =
          if t.cfg.configFault then [] else ([b0, b1, b2, b3].map BitVec.toNat).filter (fun n => n != 0)

/-- A RESTART frame by its target and kind (R189): one addressed elsewhere does nothing but be heard; a WARM one that
is taken does what the restart pin does; one of no kind counts a malformed request only where it is addressed to this
station, one with a short payload always. -/
def Obligations.RestartFramesActByTargetAndKind : Prop :=
  ∀ (n target kind : Nat) (b : Board) (s : State),
    let u := hear n s
    let counted := { u with cfg := { u.cfg with malformed := min (u.cfg.malformed + 1) 65535 } }
    (target = u.own ∨ target = 0 → exec (.restartWarm n target b) s = exec (.restartPin b) u) ∧
    (target ≠ u.own → target ≠ 0 →
      exec (.restartWarm n target b) s = .next u ∧ exec (.restartCold n target b) s = .next u ∧
        exec (.restartIgnored n (some (target, kind))) s = .next u) ∧
    (target = u.own ∨ target = 0 → kind ≠ 1 → kind ≠ 2 →
      exec (.restartIgnored n (some (target, kind))) s = .next counted) ∧
    exec (.restartIgnored n none) s = .next counted

/-- A warm restart, at the pin (R190, Table 11.1; R23, R63, R81, R99, R123, R125, R159): what is kept, what is closed,
and what is queued. The departure list is kept, and the keys of the entries closed join it in attach order, each with
its K after the final rating, by R58 and R59. A drain that a warm restart finds running or ending is ended HALTED, with
the records sent so far; a drain found IDLE stays IDLE (R81). That it is ENDING where the new straps make the station 0
too, which queues no DRAIN-END, is the model's reading (log entry 8). -/
def Obligations.WarmRestartKeepsAndCloses : Prop :=
  (∀ (b : Board) (s : State), OrdersLaw s →
      ∃ t, exec (.restartPin b) s = .next t ∧
        t.cfg.straps = b.straps ∧ t.cfg.malformed = 0 ∧
        t.tbl = { s.tbl with window := none, refusedOpens := 0, strayData := 0 } ∧
        t.rtk = { s.rtk with slipUntil := none, badMarks := 0 } ∧
        t.sub.attachOrder = [] ∧ (∀ i, (t.slot i).isOpen = false) ∧ t.sub.unknownUsage = 0 ∧
        s.sub.closingOrder <+: t.sub.closingOrder ∧
        t.hov.departures = (s.sub.attachOrder.filterMap fun i => (s.entry? i).map fun old =>
            let e := old.rate true (s.prices s.rtk.zone s.slc.ratingLink old.partner)
            (⟨old.key, e.k, e.cap != 0 && e.k == e.cap, s.timebase⟩ : Departure)).foldl
          (fun l d =>
            let others := l.filter (fun x => x.key != d.key)
            (if 32 ≤ others.length then others.drop 1 else others) ++ [d]) s.hov.departures ∧
        t.hov.pendingClaims = [] ∧ t.hov.staleReleases = 0 ∧ t.hov.departureDrops = 0 ∧
        s.bsd.store <+: t.bsd.store ∧ t.bsd.tallyWord = s.bsd.tallyWord ∧ t.bsd.tallyCount = s.bsd.tallyCount ∧
        t.slc.view = none ∧ t.slc.shoreHold = false ∧ t.slc.gateOpen = false ∧ t.slc.ratingLink = s.slc.ratingLink ∧
        t.prc.serving = .starting ∧ t.prc.cover = [] ∧ t.prc.healthDeadline = none ∧ t.prc.holdUsed = false ∧
        t.prc.refusedHolds = 0 ∧ t.prc.orphanAt = none ∧ t.prc.dwellUntil = none ∧ t.prc.nextBeacon = none ∧
        t.prc.listenUntil = (if b.straps.station = 0 then none else some (s.timebase + 2000)) ∧
        (∀ e ∈ t.prc.roster, e.state = .unheard ∧ e.lastHeard = none ∧ e.beacon = none) ∧
        t.dbi.class1 = [] ∧ t.dbi.bill = none ∧ t.dbi.beacon = none ∧ t.dbi.reports = [] ∧ t.dbi.onLine = none ∧
        t.rch.up = false ∧ t.tch.up = false ∧
        (s.prc.cover.length ≤ 15 → t.radioFault = false ∧
          t.rch.queue = s.prc.cover.map (fun m => .cover m.station false) ++ [.dormant])) ∧
  (∀ (b : Board) (s : State), ∃ t, exec (.restartPin b) s = .next t ∧
      (s.bsd.drain = .idle → t.bsd.drain = .idle ∧ t.dbi.drainEnd = none) ∧
      (∀ sent, (∃ left, s.bsd.drain = .running left sent) ∨ (∃ waiting, s.bsd.drain = .ending sent waiting) →
        t.bsd.drain = .ending sent none ∧
          (b.straps.station ≠ 0 → t.dbi.drainEnd =
            some ⟨⟨.halted, sent, s.rtk.voyage, s.bsd.tallyWord, s.bsd.tallyCount⟩, 0, s.timebase⟩)))

/-- Shore link control at a warm restart, under the straps sampled at it (R123, R190): no terminal station is in phase
NONE with nothing queued; one found in OFF or NONE enters OFF with nothing queued; one found past OFF queues
DEACTIVATE and a LINK DOWN that is not marked failed, and is brought up again where the plan it still holds wants its
link. That a station found in OFF or NONE is not brought up is the model's reading (log entry 10); the settle time is
taken as above 0. -/
def Obligations.WarmRestartLetsTheLinkGo : Prop :=
  ∀ (b : Board) (s : State), ∃ t, exec (.restartPin b) s = .next t ∧
    let terminal := b.straps.terminalPresent = true ∧ b.straps.station ≠ 0
    let wanted := b.straps.linkId ≠ 0 ∧ (b.straps.linkId = s.rtk.planLink ∨ b.straps.linkId = s.rtk.nextPlanLink)
    let down := some ⟨⟨b.straps.linkId, s.terminalHold, .down false⟩, 0, s.timebase⟩
    (¬terminal → t.slc.phase = .none ∧ t.tch.queue = [] ∧ t.dbi.link = none) ∧
    (terminal → s.slc.phase = .off ∨ s.slc.phase = .none →
      t.slc.phase = .off ∧ t.slc.activated = false ∧ t.tch.queue = [] ∧ t.dbi.link = none) ∧
    (terminal → s.slc.phase ≠ .off → s.slc.phase ≠ .none → ¬wanted →
      t.slc.phase = .off ∧ t.slc.activated = false ∧ t.tch.queue = [.deactivate] ∧ t.dbi.link = down) ∧
    (terminal → s.slc.phase ≠ .off → s.slc.phase ≠ .none → wanted →
      (s.tbl.links.getD b.straps.linkId LinkRow.zero).settleTime ≠ 0 →
      t.slc.phase = .settling ∧ t.slc.activated = true ∧ t.tch.queue = [.deactivate, .activate] ∧ t.dbi.link = down)

/-- RESTART COLD (R190, Table 11.1; R22, R63, R80, R99, R122, R125, R143, R159, R173, R186, R188): what each block is
left with and what is queued. No channel has a time its silence is measured from (log entry 17). -/
def Obligations.ColdRestartClearsEveryBlock : Prop :=
  ∀ (n target : Nat) (b : Board) (s : State),
    let u := hear n s
    let terminal := b.straps.terminalPresent && b.straps.station != 0
    target = u.own ∨ target = 0 →
    ∃ t, exec (.restartCold n target b) s = .next t ∧
      t.timebase = s.timebase ∧ t.radioHold = s.radioHold ∧ t.terminalHold = s.terminalHold ∧
      t.cfg.straps = b.straps ∧ t.cfg.malformed = 0 ∧
      (t.cfg.neighbours, t.cfg.configFault) = readMemory b.straps.station b.memory ∧
      t.sub = ⟨List.replicate 96 .free, [], [], 0⟩ ∧ t.hov = ⟨[], [], 0, 0⟩ ∧ t.bsd = ⟨[], 0, 0, 0, .idle⟩ ∧
      t.rtk = ⟨0, 0, 0, 0, 0, false, 0, none, 0⟩ ∧ t.tbl = State.reset.tbl ∧
      t.slc = ⟨if terminal then .off else .none, false, none, 0, 0, none, none, s.terminalHold && terminal, none, false,
        false, 0⟩ ∧
      t.prc.serving = .starting ∧
      t.prc.listenUntil = (if b.straps.station = 0 then none else some (s.timebase + 2000)) ∧
      t.prc.cover = [] ∧ t.prc.healthDeadline = none ∧ t.prc.holdUsed = false ∧ t.prc.refusedHolds = 0 ∧
      t.prc.nextBeacon = none ∧ t.prc.orphanAt = none ∧ t.prc.dwellUntil = none ∧ t.prc.pendingWake = false ∧
      RosterLaw t ∧ (∀ e ∈ t.prc.roster, e.state = .unheard ∧ e.lastHeard = none ∧ e.beacon = none) ∧
      t.dbi = ⟨[], t.dbi.link, none, none, none, none, [], none, 0, 0, 0, 0, 0, 0, 0, 0⟩ ∧
      t.tch = ⟨false, none, .hunting, 0, 0, 0, t.tch.queue, false, true⟩ ∧
      t.rch = ⟨false, none, .hunting, 0, 0, t.rch.drops, t.rch.queue, false, true⟩ ∧
      (u.prc.cover.length ≤ 15 → t.rch.drops = 0 ∧ t.radioFault = false ∧
        t.rch.queue = u.prc.cover.map (fun m => .cover m.station false) ++ [.dormant]) ∧
      (terminal = true → u.slc.phase ≠ .off → u.slc.phase ≠ .none →
        t.tch.queue = [.deactivate] ∧
          t.dbi.link = some ⟨⟨b.straps.linkId, s.terminalHold, .down false⟩, 0, s.timebase⟩) ∧
      (terminal = false ∨ u.slc.phase = .off ∨ u.slc.phase = .none → t.tch.queue = [] ∧ t.dbi.link = none)

/-! ## Frames heard (R130, R155, R163, R195) -/

/-- A frame a cell station takes for its roster alone, BILL, DRAIN-END or REPORT, from station `n`: the entry of `n`
becomes PRESENT, last heard now, with its copied beacon fields kept; the other entries stay; a load window of `n` is
closed; and subscribers, departures, store, route and configuration are untouched. From a PRESENT station nothing else
changes. A covered neighbour that it takes out of LOST, no return hold running, leaves the cover set with COVER off,
where its last BEACON did not show DARK, and stays in it where it did (R134). A frame of the station's own number
touches no entry (R130, R155, R163, R195). -/
def Obligations.HeardFrameMarksItsSenderPresent : Prop :=
  ∀ (n : Nat) (s : State),
    let closed := s.tbl.window.filter (fun w => w.sender != n)
    (n = s.own →
      exec (.billHeard n) s = .next { s with tbl := { s.tbl with window := closed } } ∧
      exec (.drainEndHeard n) s = .next { s with tbl := { s.tbl with window := closed } } ∧
      exec (.reportHeard n) s = .next { s with tbl := { s.tbl with window := closed } }) ∧
    (∀ e, n ≠ s.own → s.peer? n = some e →
      ∃ t, exec (.billHeard n) s = .next t ∧ exec (.drainEndHeard n) s = .next t ∧
        exec (.reportHeard n) s = .next t ∧
        t.peer? n = some { e with state := .present, lastHeard := some s.timebase } ∧
        (∀ p, p ≠ n → t.peer? p = s.peer? p) ∧
        t.tbl = { s.tbl with window := closed } ∧
        Touches [.prc, .slc, .tch, .dbi, .rch, .tbl] s t ∧
        (e.state = .present → t.prc = { s.prc with roster := t.prc.roster } ∧ Touches [.prc, .tbl] s t) ∧
        (e.state = .lost → e.neighbour = true → s.covers n = true →
          (∀ x ∈ s.prc.cover, x.station = n → x.holdUntil = none) →
          ((∀ b, e.beacon = some b → b.serving ≠ .dark) →
            t.prc.cover = s.prc.cover.filter (fun x => x.station != n) ∧
            (s.rch.queue.length < 16 → t.rch.queue = s.rch.queue ++ [.cover n false])) ∧
          (∀ b, e.beacon = some b → b.serving = .dark →
            t.prc.cover = s.prc.cover ∧ t.rch = s.rch)))

/-- A payload shorter than its layout, and a BEACON that shows STARTING, are ignored and raise the malformed-request
count; the frame has still been heard and has still ended a load window of its sender, but for a TABLE-OPEN, which
ends none (R195, R155). A frame that fails a receive check raises that check's count and nothing else (R162, Table
9.2); so do the errors and overruns of a channel, at the terminal channel of a terminal station, each leaving the
receiver hunting (R176, R180), and a good message that is not handed on makes its channel UP all the same, radio and
terminal (R177). -/
def Obligations.ErrorsAndMalformedFramesAreCounted : Prop :=
  (∀ (n : Nat) (m : BeaconMsg) (s : State),
      let count := fun u : State => { u with cfg := { u.cfg with malformed := min (u.cfg.malformed + 1) 65535 } }
      exec (.waypoint n none) s = .next (count (hear n s)) ∧
      exec (.claimHeard n none) s = .next (count (hear n s)) ∧
      exec (.releaseHeard n none) s = .next (count (hear n s)) ∧
      exec (.beaconHeard n none) s = .next (count (hear n s)) ∧
      exec (.drainRequest n none) s = .next (count (hear n s)) ∧
      exec (.query n none) s = .next (count (hear n s)) ∧
      exec (.restartIgnored n none) s = .next (count (hear n s)) ∧
      exec (.malformedLinkFrame n) s = .next (count (hear n s)) ∧
      exec (.tableOpen n none) s = .next (count (heardFrom n none s)) ∧
      (m.serving = .starting → exec (.beaconHeard n (some m)) s = .next (count (hear n s)))) ∧
  (∀ (s : State),
      let up := fun n => min (n + 1) 65535
      exec (.frameReceiveError .length) s =
        .next { s with dbi := { s.dbi with lengthErrors := up s.dbi.lengthErrors } } ∧
      exec (.frameReceiveError .checkword) s =
        .next { s with dbi := { s.dbi with checkwordErrors := up s.dbi.checkwordErrors } } ∧
      exec (.frameReceiveError .senderZero) s =
        .next { s with dbi := { s.dbi with senderZeroErrors := up s.dbi.senderZeroErrors } } ∧
      exec (.frameReceiveError .unknownKind) s =
        .next { s with dbi := { s.dbi with unknownKindErrors := up s.dbi.unknownKindErrors } } ∧
      exec (.frameReceiveError .classField) s =
        .next { s with dbi := { s.dbi with classErrors := up s.dbi.classErrors } } ∧
      (∀ e, e = .framing ∨ e = .gap ∨ e = .checkbyte ∨ (e = .parity ∧ s.cfg.straps.parity = true) →
        exec (.channelMessageError .radio e) s =
          .next { s with rch := { s.rch with receiver := .hunting, errors := up s.rch.errors } } ∧
        (s.isTerminal = true → exec (.channelMessageError .terminal e) s =
          .next { s with tch := { s.tch with receiver := .hunting, errors := up s.tch.errors } })) ∧
      (∀ e, e = .unknownType ∨ e = .wrongLength ∨ e = .outOfRange →
        exec (.channelMessageError .radio e) s = .next { s with rch := { s.rch with
          receiver := .hunting, up := true, silenceFrom := some s.timebase, errors := up s.rch.errors } } ∧
        (s.isTerminal = true → exec (.channelMessageError .terminal e) s = .next { s with tch := { s.tch with
          receiver := .hunting, up := true, silenceFrom := some s.timebase, errors := up s.tch.errors } })) ∧
      exec (.channelOverrun .radio) s =
        .next { s with rch := { s.rch with receiver := .hunting, overruns := up s.rch.overruns } } ∧
      (s.isTerminal = true → exec (.channelOverrun .terminal) s =
        .next { s with tch := { s.tch with receiver := .hunting, overruns := up s.tch.overruns } }) ∧
      (s.isTerminal = false → ∀ e, exec (.channelMessageError .terminal e) s = .next s ∧
        exec (.channelOverrun .terminal) s = .next s))

/-! ## Route (chapter 5) -/

/-- A mark with the origin flag clear (Table 5.2, R85 to R87). -/
def Obligations.MarksMoveTheLeg : Prop :=
  ∀ (n leg : Nat) (s : State),
    let u := hear n s
    let len := u.tbl.route.length
    let next := (u.rtk.leg + 1) % len
    (len = 0 → exec (.waypoint n (some leg)) s = .next u) ∧
    (len ≠ 0 → leg ≠ 255 → 48 ≤ leg ∨ len ≤ leg →
      exec (.waypoint n (some leg)) s =
        .next { u with rtk := { u.rtk with badMarks := min (u.rtk.badMarks + 1) 65535 } }) ∧
    (len ≠ 0 → leg < 48 → leg < len → leg = u.rtk.leg → exec (.waypoint n (some leg)) s = .next u) ∧
    (len ≠ 0 → leg = 255 ∨ (leg < 48 ∧ leg = next) →
      ∃ t, exec (.waypoint n (some leg)) s = .next t ∧ t.rtk.leg = next ∧ t.rtk.slipCount = u.rtk.slipCount ∧
        t.rtk.slipUntil = u.rtk.slipUntil ∧ t.rtk.badMarks = u.rtk.badMarks ∧ t.rtk.voyage = u.rtk.voyage) ∧
    (len ≠ 0 → leg < 48 → leg < len → leg ≠ u.rtk.leg → leg ≠ next →
      ∃ t, exec (.waypoint n (some leg)) s = .next t ∧ t.rtk.leg = leg ∧
        t.rtk.slipCount = min (u.rtk.slipCount + 1) 65535 ∧ t.rtk.slipUntil = some (u.timebase + 60000) ∧
        t.rtk.badMarks = u.rtk.badMarks ∧ t.rtk.voyage = u.rtk.voyage)

/-- What a leg implies (R83): the zone and plan link of its ROUTE row and the plan link of the row of the leg after it,
the route wrapping, all 0 with no route; and silent where an enabled SILENCE row with both legs below L covers it, one
whose first leg is above its last wrapping round the route's end (R93). A mark to the next leg (R88): where the new leg
implies the zone, silence status and plan pair held, nothing changes but the leg. Where it implies another plan pair
alone, the pair is held as one and handed to shore link control, which evaluates its conditions (R91). Where it implies
another zone alone (R89): with no entry open, the zone is held and IDENTITY with its code queued, and nothing else
changes; with entries open (R31), each is rated under the outgoing zone, and its ZONE record is stored and a new
interval opened under the new zone, or it has no content and a new interval is opened, or the record is deferred and
the entry is MIXED; IDENTITY is queued; and an entry whose partner row is empty, suspended or does not permit the new
zone is closed WITHDRAWN, with RELEASE-SUB and nothing in the departure list. A mark that brings a SERVING or DARK
station's leg into a silence window (R94, R95): the station is DORMANT, with no open entry, an empty cover set, no
orphan timer, a dwell of 2000 ms and no pending wake. -/
def Obligations.LegEvaluationActsOnWhatDiffers : Prop :=
  (∀ s : State,
      let len := s.tbl.route.length
      let leg := s.rtk.leg
      let row := fun j : Nat => s.tbl.legs.getD j .zero
      (len = 0 → s.derivedZone = 0 ∧ s.derivedPlan = 0 ∧ s.derivedNextPlan = 0) ∧
      (len ≠ 0 → s.derivedZone = (row leg).zone ∧ s.derivedPlan = (row leg).link ∧
        s.derivedNextPlan = (row ((leg + 1) % len)).link) ∧
      (s.derivedSilent = true ↔ ∃ r ∈ s.tbl.silences, r.enabled = true ∧ r.first < len ∧ r.last < len ∧
        ((r.first ≤ r.last ∧ r.first ≤ leg ∧ leg ≤ r.last) ∨
          (r.last < r.first ∧ ((r.first ≤ leg ∧ leg ≤ len - 1) ∨ leg ≤ r.last))))) ∧
  (∀ (n : Nat) (s : State),
      let u := hear n s
      let next := (u.rtk.leg + 1) % u.tbl.route.length
      let v := { u with rtk := { u.rtk with leg := next } }
      let w := { u with rtk := { u.rtk with leg := next, zone := v.derivedZone } }
      let samePlan := v.derivedPlan = u.rtk.planLink ∧ v.derivedNextPlan = u.rtk.nextPlanLink
      u.tbl.route.length ≠ 0 → next < 48 → next ≠ u.rtk.leg → v.derivedSilent = u.rtk.silent →
      (v.derivedZone = u.rtk.zone → samePlan → exec (.waypoint n (some next)) s = .next v) ∧
      (v.derivedZone = u.rtk.zone → ¬samePlan →
        exec (.waypoint n (some next)) s = .next (evaluate { u with rtk := { u.rtk with
          leg := next, planLink := v.derivedPlan, nextPlanLink := v.derivedNextPlan } })) ∧
      (v.derivedZone ≠ u.rtk.zone → samePlan → u.sub.attachOrder = [] →
        exec (.waypoint n (some next)) s =
          .next (queueRadio (.identity (u.tbl.zones.getD v.derivedZone 0)) w)) ∧
      (v.derivedZone ≠ u.rtk.zone → samePlan → OrdersLaw u →
        u.rch.queue.length + 2 * u.sub.attachOrder.length < 16 →
        ∃ t, exec (.waypoint n (some next)) s = .next t ∧ t.rtk = w.rtk ∧ t.hov = u.hov ∧
          .identity (u.tbl.zones.getD v.derivedZone 0) ∈ t.rch.queue ∧
          t.sub.attachOrder.Sublist u.sub.attachOrder ∧
          (∀ i old, u.slot i = .opened old →
            let e := old.rate false (u.prices u.rtk.zone u.slc.ratingLink old.partner)
            let row := u.tbl.partners.getD old.partner .zero
            let fails := row.home = 0 ∨ row.suspended = true ∨ row.zones.getLsbD v.derivedZone = false
            let room := u.bsd.store.length + u.sub.attachOrder.length ≤ 48 ∧ u.sub.closingOrder = []
            (e.hasContent = true → room → ∃ r ∈ t.bsd.store, r.record = u.buildRecord .zone e) ∧
            (fails → (t.slot i).isOpen = false ∧ i ∉ t.sub.attachOrder ∧ .releaseSub old.key ∈ t.rch.queue) ∧
            (¬fails → i ∈ t.sub.attachOrder ∧
              (e.hasContent = false → t.slot i = .opened (w.openInterval e)) ∧
              (e.hasContent = true → room → t.slot i = .opened (w.openInterval e)) ∧
              (e.hasContent = true → 48 ≤ u.bsd.store.length ∨ u.sub.closingOrder ≠ [] →
                t.slot i = .opened { e with mixed := true }))) ∧
          Touches [.rtk, .sub, .bsd, .rch] u t)) ∧
  (∀ (n : Nat) (s : State),
      let u := hear n s
      let next := (u.rtk.leg + 1) % u.tbl.route.length
      let v := { u with rtk := { u.rtk with leg := next } }
      OrdersLaw u → u.tbl.route.length ≠ 0 → next < 48 → next ≠ u.rtk.leg →
      u.rtk.silent = false → v.derivedSilent = true → u.prc.serving = .serving ∨ u.prc.serving = .dark →
      ∃ t, exec (.waypoint n (some next)) s = .next t ∧ t.rtk.silent = true ∧ t.prc.serving = .dormant ∧
        t.sub.attachOrder = [] ∧ (∀ i, (t.slot i).isOpen = false) ∧ t.prc.cover = [] ∧ t.prc.orphanAt = none ∧
        t.prc.dwellUntil = some (u.timebase + 2000) ∧ t.prc.pendingWake = false ∧
        Touches [.rtk, .sub, .hov, .bsd, .slc, .prc, .dbi, .rch, .tch] u t)

/-- An origin mark (R79, R84): the voyage number rises, wrapping from 255, the leg is 0 and the tally 0; the drain
state, the pending claims and the tables are as before. Where leg 0 implies the zone, silence status and plan pair
held, the voyage start is all of it: each open entry is rated under the present pair (R32), and its VOYAGE record,
under the number of the voyage that ends, is stored in attach order and a new interval opened, or it has no content and
a new interval is opened, or the record is deferred and the interval goes on with no flag set (R69, R70); then K of
every open entry is 0 and the departure list empty, and each entry that the ratings left BARRED is ACTIVE, with UNBAR
for its key in attach order, the new interval keeping the barred flag it opened with (R14). No entry is opened or
closed. -/
def Obligations.OriginMarkStartsAVoyage : Prop :=
  ∀ (n : Nat) (s : State),
    let u := hear n s
    let v := { u with rtk := { u.rtk with leg := 0 } }
    ∃ t, exec (.waypointOrigin n) s = .next t ∧
      t.rtk.voyage = (if 255 ≤ u.rtk.voyage then 0 else u.rtk.voyage + 1) ∧ t.rtk.leg = 0 ∧
      t.bsd.tallyWord = 0 ∧ t.bsd.tallyCount = 0 ∧ t.bsd.drain = u.bsd.drain ∧
      t.hov.pendingClaims = u.hov.pendingClaims ∧ t.tbl = u.tbl ∧
      (OrdersLaw u → v.derivedZone = u.rtk.zone → v.derivedSilent = u.rtk.silent →
        v.derivedPlan = u.rtk.planLink → v.derivedNextPlan = u.rtk.nextPlanLink →
        let rated := fun old : Entry => old.rate false (u.prices u.rtk.zone u.slc.ratingLink old.partner)
        let inOrder := u.sub.attachOrder.filterMap u.entry?
        let room := u.bsd.store.length + u.sub.attachOrder.length ≤ 48 ∧ u.sub.closingOrder = []
        t.hov.departures = [] ∧ t.sub.attachOrder = u.sub.attachOrder ∧
          t.sub.closingOrder = u.sub.closingOrder ∧
          (∀ e, Slot.opened e ∈ t.sub.slots → e.k = 0 ∧ e.state = .active) ∧
          (∀ i, (u.slot i).isOpen = false → t.slot i = u.slot i) ∧
          (∀ i old, u.slot i = .opened old →
            let e := rated old
            let new := { u.openInterval e with k := 0, state := .active }
            (e.hasContent = false → t.slot i = .opened new) ∧
            (e.hasContent = true → room → t.slot i = .opened new) ∧
            (e.hasContent = true → 48 ≤ u.bsd.store.length ∨ u.sub.closingOrder ≠ [] →
              t.slot i = .opened { e with k := 0, state := .active })) ∧
          (room → t.bsd.store.map Stored.record = u.bsd.store.map Stored.record ++
            inOrder.filterMap (fun old =>
              if (rated old).hasContent then some { u.buildRecord .voyage (rated old) with voyage := u.rtk.voyage }
              else none)) ∧
          (u.rch.queue.length + 2 * u.sub.attachOrder.length ≤ 16 → t.rch.queue = u.rch.queue ++
            inOrder.filterMap (fun old =>
              if old.state = .active ∧ (rated old).state = .barred then some (.bar old.key) else none) ++
            inOrder.filterMap (fun old => if (rated old).state = .barred then some (.unbar old.key) else none)) ∧
          Touches [.sub, .hov, .bsd, .rtk, .rch] u t)

/-- The slip flag is cleared 60 s after the latest slip, with nothing else changed (R86); the oldest departure is
removed 3600 s after its departure time (R60). Before its time neither command does anything (the model's choice, log
entry 4). A return hold runs out (R135): COVER off is queued and the member leaves the cover set, the others keeping
their order. -/
def Obligations.FlagsDeparturesAndHoldsExpire : Prop :=
  (∀ s : State,
      (∀ d, s.rtk.slipUntil = some d →
        exec .slipFlagExpiry s =
          .next (if d ≤ s.timebase then { s with rtk := { s.rtk with slipUntil := none } } else s)) ∧
      (s.rtk.slipUntil = none → exec .slipFlagExpiry s = .next s) ∧
      (∀ d rest, s.hov.departures = d :: rest →
        exec .departureExpiry s =
          .next (if 3600000 ≤ s.timebase - d.time then { s with hov := { s.hov with departures := rest } } else s)) ∧
      (s.hov.departures = [] → exec .departureExpiry s = .next s)) ∧
  (∀ (p : Nat) (s : State),
      (∀ m d, m ∈ s.prc.cover → m.station = p → m.holdUntil = some d → d ≤ s.timebase →
        exec (.returnHoldExpiry p) s = .next (queueRadio (.cover p false)
          { s with prc := { s.prc with cover := s.prc.cover.filter (fun x => x.station != p) } })) ∧
      ((∀ m ∈ s.prc.cover, m.station = p → m.holdUntil = none) → exec (.returnHoldExpiry p) s = .next s))

/-- Table 5.3. The dwell runs out while DORMANT (R96, R97): with no wake pending the station stays DORMANT, its dwell
run; with one pending it wakes: WAKE and IDENTITY are queued, and it is DARK where the health deadline has passed or
the radio channel is LOST, its orphan timer started (R141), else SERVING. The silence status changes while DORMANT,
here at a mark to the next leg (R94, R96): found not silent while the dwell runs, the wake is made pending; found not
silent with the dwell run, the station wakes at once; found silent, a pending wake is cleared. Where the leg implies
the zone and plan pair held, nothing else moves. -/
def Obligations.DwellExpiryWakes : Prop :=
  (∀ (d : Nat) (s : State), s.prc.serving = .dormant → s.prc.dwellUntil = some d → d ≤ s.timebase →
    (s.prc.pendingWake = false →
      exec .dwellExpiry s = .next { s with prc := { s.prc with dwellUntil := none } }) ∧
    (s.prc.pendingWake = true → ∃ t, exec .dwellExpiry s = .next t ∧
      t.prc.dwellUntil = none ∧ t.prc.pendingWake = false ∧
      (s.prc.healthDeadline = none ∨ s.rch.up = false →
        t.prc.serving = .dark ∧ t.prc.orphanAt = some (s.timebase + 30000)) ∧
      (s.prc.healthDeadline ≠ none → s.rch.up = true → t.prc.serving = .serving) ∧
      (s.rch.queue.length ≤ 14 →
        s.rch.queue ++ [.wake, .identity (s.tbl.zones.getD s.rtk.zone 0)] <+: t.rch.queue) ∧
      Touches [.prc, .rch] s t)) ∧
  (∀ (n : Nat) (s : State),
    let u := hear n s
    let next := (u.rtk.leg + 1) % u.tbl.route.length
    let v := { u with rtk := { u.rtk with leg := next } }
    let route := { v.rtk with
      zone := v.derivedZone, silent := v.derivedSilent, planLink := v.derivedPlan, nextPlanLink := v.derivedNextPlan }
    let same := v.derivedZone = u.rtk.zone ∧ v.derivedPlan = u.rtk.planLink ∧ v.derivedNextPlan = u.rtk.nextPlanLink
    u.prc.serving = .dormant → u.tbl.route.length ≠ 0 → next < 48 → next ≠ u.rtk.leg →
    v.derivedSilent ≠ u.rtk.silent →
    ∃ t, exec (.waypoint n (some next)) s = .next t ∧ t.rtk = route ∧
      Touches [.rtk, .sub, .hov, .bsd, .slc, .prc, .dbi, .rch, .tch] u t ∧
      (v.derivedSilent = false → u.prc.dwellUntil ≠ none →
        t.prc = { u.prc with pendingWake := true } ∧ (same → Touches [.rtk, .prc] u t)) ∧
      (v.derivedSilent = false → u.prc.dwellUntil = none →
        t.prc.dwellUntil = none ∧ t.prc.pendingWake = false ∧
        (u.prc.healthDeadline = none ∨ u.rch.up = false →
          t.prc.serving = .dark ∧ t.prc.orphanAt = some (u.timebase + 30000)) ∧
        (u.prc.healthDeadline ≠ none → u.rch.up = true → t.prc.serving = .serving) ∧
        (same → Touches [.rtk, .prc, .rch] u t ∧ (u.rch.queue.length ≤ 14 →
          u.rch.queue ++ [.wake, .identity (u.tbl.zones.getD u.rtk.zone 0)] <+: t.rch.queue))) ∧
      (v.derivedSilent = true →
        t.prc = { u.prc with pendingWake := false } ∧ (same → Touches [.rtk, .prc] u t)))

/-- An ATTACH that is refused, the checks in the order of Table 1.4 up to the seventh, and a refresh (R6, R7): one
directive is queued, and nothing else changes but that the message was a good one. -/
def Obligations.AttachIsRefusedInOrder : Prop :=
  ∀ (key home : Nat) (req : Services) (s : State),
    let answer := fun d : RadioDirective => Host.Outcome.next (φ := Fault) (ρ := Refusal) (queueRadio d (radioGood s))
    let row := fun r : Nat => s.tbl.partners.getD r .zero
    (s.prc.serving ≠ .serving ∨ s.own = 0 → exec (.attach key home req) s = answer (.refuse key .notServing)) ∧
    (s.prc.serving = .serving → s.own ≠ 0 →
      (key = 0 → exec (.attach key home req) s = answer (.refuse 0 .malformed)) ∧
      (key ≠ 0 → ∀ i e, s.findOpen key = some i → s.slot i = .opened e →
        exec (.attach key home req) s =
          answer (if e.state = .active then .admitSub key ⟨e.grant.data && s.slc.gateOpen, e.grant.voice⟩
            else .bar key)) ∧
      (key ≠ 0 → s.findOpen key = none →
        (home = 0 ∨ (∀ r ∈ s.tbl.partners, r.home ≠ home) →
          exec (.attach key home req) s = answer (.refuse key .noPartner)) ∧
        (∀ r, s.findPartner home = some r →
          ((row r).suspended = true → exec (.attach key home req) s = answer (.refuse key .suspended)) ∧
          ((row r).suspended = false →
            ((row r).zones.getLsbD s.rtk.zone = false →
              exec (.attach key home req) s = answer (.refuse key .zoneNotPermitted)) ∧
            ((row r).zones.getLsbD s.rtk.zone = true →
              ((req.data && (row r).services.data) = false → (req.voice && (row r).services.voice) = false →
                exec (.attach key home req) s = answer (.refuse key .noService)))))))

/-- Admission into the lowest FREE slot (R4, R9, R47), with room for its CLAIM and its answer: the new entry with K
restored from the departure list, the orders, the answer, the CLAIM, and nothing else. -/
def Obligations.AttachAdmitsANewEntry : Prop :=
  ∀ (key home r i : Nat) (req : Services) (s : State),
    s.prc.serving = .serving → s.own ≠ 0 → key ≠ 0 → s.findOpen key = none → s.findPartner home = some r →
    let row := s.tbl.partners.getD r .zero
    let grant : Services := ⟨req.data && row.services.data, req.voice && row.services.voice⟩
    let ceiling := if row.cap = 0 then 16777215 else row.cap
    let k := match s.hov.departures.find? (fun d => d.key == key) with
      | none => 0
      | some d => if d.capReached = true ∧ row.cap ≠ 0 then row.cap else min d.charge ceiling
    row.suspended = false → row.zones.getLsbD s.rtk.zone = true → grant.data = true ∨ grant.voice = true →
    s.firstFree = some i → s.hov.pendingClaims.contains key = false → s.dbi.class1.length < 16 →
    s.rch.queue.length < 16 →
    ∃ t e, exec (.attach key home req) s = .next t ∧ t.slot i = .opened e ∧
      e.key = key ∧ e.partner = r ∧ e.grant = grant ∧ e.cap = row.cap ∧ e.k = k ∧
      e.state = (if row.cap ≠ 0 ∧ k = row.cap then .barred else .active) ∧
      e.barredIn = decide (row.cap ≠ 0 ∧ k = row.cap) ∧
      e.unratedData = 0 ∧ e.unratedVoice = 0 ∧ e.dataResidue = 0 ∧ e.voiceResidue = 0 ∧ e.start = s.timebase ∧
      e.data = 0 ∧ e.voice = 0 ∧ e.charge = 0 ∧ e.forgiven = 0 ∧ e.overrunData = 0 ∧ e.overrunVoice = 0 ∧
      e.saturated = false ∧ e.mixed = false ∧ e.zone = s.rtk.zone ∧ e.link = s.slc.ratingLink ∧
      e.claimPending = true ∧
      (∀ j, j ≠ i → t.slot j = s.slot j) ∧ (∀ j, j < i → (s.slot j).isFree = false) ∧
      t.sub.attachOrder = s.sub.attachOrder ++ [i] ∧ t.sub.closingOrder = s.sub.closingOrder ∧
      t.hov.departures = s.hov.departures.filter (fun d => d.key != key) ∧
      t.hov.pendingClaims = s.hov.pendingClaims ++ [key] ∧
      t.dbi.class1 = s.dbi.class1 ++ [⟨.claim key, 0, s.timebase⟩] ∧
      t.rch.queue = s.rch.queue ++
        [if e.state = .active then .admitSub key ⟨grant.data && s.slc.gateOpen, grant.voice⟩ else .bar key] ∧
      Touches [.sub, .hov, .dbi, .rch] s t

/-- With no FREE slot (R8): the oldest BARRED entry is evicted where the store has room and no CLOSING slot waits, its
slot is taken by the new entry, and RELEASE-SUB for its key is queued before the answer, ADMIT or, where the new entry
is BARRED, BAR (R9); with no BARRED entry, or 64 records stored, the ATTACH is refused TABLE_FULL. -/
def Obligations.FullTableEvictsTheOldestBarred : Prop :=
  ∀ (key home r : Nat) (req : Services) (s : State),
    s.prc.serving = .serving → s.own ≠ 0 → key ≠ 0 → s.findOpen key = none → s.findPartner home = some r →
    let row := s.tbl.partners.getD r .zero
    row.suspended = false → row.zones.getLsbD s.rtk.zone = true →
    (req.data && row.services.data) = true ∨ (req.voice && row.services.voice) = true → s.firstFree = none →
    ((∀ i ∈ s.sub.attachOrder, s.isBarred i = false) ∨ 64 ≤ s.bsd.store.length →
      exec (.attach key home req) s = .next (queueRadio (.refuse key .tableFull) (radioGood s))) ∧
    (∀ b old, s.sub.attachOrder.find? s.isBarred = some b → s.slot b = .opened old →
      s.bsd.store.length < 64 → s.sub.closingOrder = [] → s.rch.queue.length ≤ 14 →
      ∃ t e, exec (.attach key home req) s = .next t ∧ t.slot b = .opened e ∧ e.key = key ∧ e.partner = r ∧
        (∀ j, j ≠ b → t.slot j = s.slot j) ∧ t.sub.attachOrder = s.sub.attachOrder.erase b ++ [b] ∧
        t.sub.closingOrder = [] ∧ (old.key ≠ key → ∃ d ∈ t.hov.departures, d.key = old.key) ∧
        e.grant = ⟨req.data && row.services.data, req.voice && row.services.voice⟩ ∧
        t.rch.queue = s.rch.queue ++ [.releaseSub old.key,
          if e.state = .active then .admitSub key ⟨e.grant.data && s.slc.gateOpen, e.grant.voice⟩ else .bar key] ∧
        Touches [.sub, .hov, .bsd, .dbi, .rch] s t)

/-- DETACH (R12, R16, R17, R33, R58, R71, R72): a key that is not open changes nothing; an open one is final-rated and
leaves its slot, its key joins the tail of the departure list with its K, in place of a listed entry of the same key,
and dropping the head of a list of 32 other keys, which is counted (R59); no RELEASE-SUB goes; and its record enters
the store, or leaves the slot CLOSING, or is not built. -/
def Obligations.DetachClosesTheEntry : Prop :=
  ∀ (key : Nat) (s : State),
    (s.findOpen key = none → exec (.detach key) s = .next (radioGood s)) ∧
    (∀ i old, s.findOpen key = some i → s.slot i = .opened old →
      let e := old.rate true (s.prices s.rtk.zone s.slc.ratingLink old.partner)
      let record := s.buildRecord .detach e
      let departure : Departure := ⟨key, e.k, e.cap != 0 && e.k == e.cap, s.timebase⟩
      let others := s.hov.departures.filter (fun d => d.key != key)
      ∃ t, exec (.detach key) s = .next t ∧
        t.sub.attachOrder = s.sub.attachOrder.erase i ∧ (∀ j, j ≠ i → t.slot j = s.slot j) ∧
        (others.length < 32 → t.hov = { s.hov with departures := others ++ [departure] }) ∧
        (32 ≤ others.length → t.hov = { s.hov with
          departures := others.drop 1 ++ [departure], departureDrops := min (s.hov.departureDrops + 1) 65535 }) ∧
        (e.hasContent = false → t.slot i = .free ∧ t.bsd = s.bsd ∧ t.sub.closingOrder = s.sub.closingOrder) ∧
        (e.hasContent = true → s.bsd.store.length < 64 → s.sub.closingOrder = [] →
          t.slot i = .free ∧ t.bsd.store = s.bsd.store ++ [⟨s.bsd.nextSequence, record⟩] ∧
            t.bsd.nextSequence = (if 65535 ≤ s.bsd.nextSequence then 0 else s.bsd.nextSequence + 1) ∧
            t.sub.closingOrder = []) ∧
        (e.hasContent = true → 64 ≤ s.bsd.store.length ∨ s.sub.closingOrder ≠ [] →
          t.slot i = .closing record ∧ t.bsd = s.bsd ∧ t.sub.closingOrder = s.sub.closingOrder ++ [i]) ∧
        (s.rch.queue.length < 16 → t.rch.queue = s.rch.queue ++
          (if old.state = .active ∧ e.state = .barred then [.bar key] else [])) ∧
        Touches [.sub, .hov, .bsd, .rch] s t)

/-- USAGE (R10, R11, R28): an unknown key is counted; the increments go to the unrated meters of an ACTIVE entry or to
the overrun of a BARRED one, saturating, with the voice increment held to 3,600 s; and while the interval is younger
than 900 s, an ACTIVE entry is rated where a meter has reached its threshold, and nothing else follows. A USAGE that
finds the interval 900 s old or older (R28, R30, R67, R69): the entry is rated, and where its interval has content and
the store takes an interval record, the record joins the tail and a new interval opens; where it has none a new
interval opens; where the record is deferred the interval stays open as the rating left it. -/
def Obligations.UsageIsMeteredAndRated : Prop :=
  (∀ (key data voice : Nat) (s : State),
      let v := min voice 3600
      (s.findOpen key = none → exec (.usage key data voice) s =
        .next { radioGood s with sub := { s.sub with unknownUsage := min (s.sub.unknownUsage + 1) 65535 } }) ∧
      (∀ i e, s.findOpen key = some i → s.slot i = .opened e → s.timebase - e.start < 900000 →
        (e.state = .barred → exec (.usage key data voice) s = .next ((radioGood s).setSlot i (.opened
          { e with
            overrunData := min (e.overrunData + data) 16777215, overrunVoice := min (e.overrunVoice + v) 16777215
            saturated := e.saturated || decide (16777215 < e.overrunData + data) ||
              decide (16777215 < e.overrunVoice + v) }))) ∧
        (e.state = .active →
          let e1 := { e with
            unratedData := min (e.unratedData + data) 1048575, unratedVoice := min (e.unratedVoice + v) 65535
            saturated := e.saturated || decide (1048575 < e.unratedData + data) ||
              decide (65535 < e.unratedVoice + v) }
          (e1.unratedData < 1024 → e1.unratedVoice < 300 →
            exec (.usage key data voice) s = .next ((radioGood s).setSlot i (.opened e1))) ∧
          (1024 ≤ e1.unratedData ∨ 300 ≤ e1.unratedVoice →
            let e2 := e1.rate false (s.prices s.rtk.zone s.slc.ratingLink e.partner)
            exec (.usage key data voice) s = .next
              (if e2.state = .barred then queueRadio (.bar key) ((radioGood s).setSlot i (.opened e2))
                else (radioGood s).setSlot i (.opened e2)))))) ∧
  (∀ (key data voice i : Nat) (e : Entry) (s : State),
      s.findOpen key = some i → s.slot i = .opened e → 900000 ≤ s.timebase - e.start →
      let e2 := (e.takeUsage data (min voice 3600)).rate false (s.prices s.rtk.zone s.slc.ratingLink e.partner)
      ∃ t, exec (.usage key data voice) s = .next t ∧
        (e2.hasContent = false → t.slot i = .opened (s.openInterval e2) ∧ t.bsd = s.bsd) ∧
        (e2.hasContent = true → s.bsd.store.length ≤ 47 → s.sub.closingOrder = [] →
          t.slot i = .opened (s.openInterval e2) ∧
            t.bsd.store = s.bsd.store ++ [⟨s.bsd.nextSequence, s.buildRecord .interval e2⟩]) ∧
        (e2.hasContent = true → 48 ≤ s.bsd.store.length ∨ s.sub.closingOrder ≠ [] →
          t.slot i = .opened e2 ∧ t.bsd = s.bsd) ∧
        (∀ j, j ≠ i → t.slot j = s.slot j) ∧ t.sub.attachOrder = s.sub.attachOrder ∧
        Touches [.sub, .bsd, .rch] s t)

/-! ## Rating (chapter 2) -/

/-- The prices of a rating (R24, R26): the TARIFF row 4 times the zone plus the partner row's class, an increment of 0
taken as 1, and the surcharge of the link's row, one below 32 taken as 64. The arithmetic of one meter (R34 to R37), for
an even divisor and a residue below it: a rating that is not final sells whole increments, leaves the remainder unrated
and charges exactly, the charge in fractions, with the residue after, being the residue before with the numerator; a
final rating sells the remainder as one increment more and rounds half up. A rating of an entry (R27, R35, R37, R38)
rates data by the divisor 65,536 and voice by 3,840, adds what is sold to the interval's volumes, each saturating at
16,777,215 with the meter-saturated flag set where an addition is cut short, and applies the sum of the charges once. -/
def Obligations.MeterRatingIsExact : Prop :=
  (∀ (zone link partner : Nat) (s : State),
      let row := s.tbl.tariffs.getD (4 * zone + (s.tbl.partners.getD partner .zero).cls) .zero
      let surcharge := (s.tbl.links.getD link .zero).surcharge
      let p := s.prices zone link partner
      p.dataPrice = row.dataPrice ∧ p.dataInc = max 1 row.dataInc ∧ p.voicePrice = row.voicePrice ∧
        p.voiceInc = max 1 row.voiceInc ∧ (surcharge < 32 → p.surcharge = 64) ∧
        (32 ≤ surcharge → p.surcharge = surcharge)) ∧
  (∀ (inc price f half meter residue : Nat), 0 < inc → 0 < half → residue < 2 * half →
      let r := rateMeter false inc price f (2 * half) meter residue
      let q := rateMeter true inc price f (2 * half) meter residue
      (r.sold = meter / inc * inc ∧ r.left = meter % inc ∧ r.residue < 2 * half ∧
        r.charge * (2 * half) + r.residue = residue + r.sold * price * f) ∧
      (q.left = 0 ∧ q.residue = 0 ∧ meter ≤ q.sold ∧ q.sold < meter + inc ∧ q.sold % inc = 0 ∧
        q.charge = (residue + q.sold * price * f + half) / (2 * half))) ∧
  (∀ (final : Bool) (p : Prices) (e : Entry),
      let d := rateMeter final p.dataInc p.dataPrice p.surcharge 65536 e.unratedData e.dataResidue
      let v := rateMeter final p.voiceInc p.voicePrice p.surcharge 3840 e.unratedVoice e.voiceResidue
      e.rate final p = Entry.applyCharge (d.charge + v.charge) { e with
        unratedData := d.left, dataResidue := d.residue, unratedVoice := v.left, voiceResidue := v.residue
        data := min (e.data + d.sold) 16777215, voice := min (e.voice + v.sold) 16777215
        saturated := e.saturated || decide (16777215 < e.data + d.sold) || decide (16777215 < e.voice + v.sold) })

/-- The application of a charge (R39 to R41): K rises to the smaller of K plus the charge and the ceiling, what is
added joins the interval charge, the rest is forgiven, and the entry is BARRED exactly when its cap is not 0 and K
equals it. The interval charge and forgiven are taken with room below their ceilings. -/
def Obligations.ChargeIsHeldToTheCap : Prop :=
  ∀ (c : Nat) (e : Entry), e.CapLaw →
    let ceiling := if e.cap = 0 then 16777215 else e.cap
    let e' := e.applyCharge c
    e'.k = min (e.k + c) ceiling ∧ e'.CapLaw ∧
    (e.charge + c ≤ 16777215 → e.forgiven + c ≤ 16777215 →
      e'.charge = e.charge + (e'.k - e.k) ∧ e'.forgiven = e.forgiven + (e.k + c - e'.k) ∧
        e'.saturated = e.saturated) ∧
    (e.state = .barred → e'.k = e.k ∧ e'.state = .barred ∧ e'.barredIn = e.barredIn) ∧
    (e.state = .active → e'.state = .barred → e'.barredIn = true)

/-! ## Handover (chapter 3) -/

/-- A CLAIM that releases no entry (R50, R52): one that carries this station's own number, one for a key whose own
claim is pending, and one for a key found nowhere do nothing; one for a key in the departure list is answered with a
RELEASE of the listed charge, and the list entry is removed. A CLAIM of another station for an open entry with no
claim pending (R51): the entry is final-rated and closed HANDOVER, RELEASE-SUB goes, its key joins no departure list,
and a RELEASE carries its K after the final rating. That a CLAIM heard with this station's own number is taken as the
part's own, also where a twin sent it, is the model's reading (log entry 19). -/
def Obligations.ClaimsAreAnswered : Prop :=
  (∀ (n key : Nat) (s : State),
      let u := hear n s
      (n = u.own → exec (.claimHeard n (some key)) s = .next u) ∧
      (n ≠ u.own →
        (∀ i e, u.findOpen key = some i → u.slot i = .opened e → e.claimPending = true →
          exec (.claimHeard n (some key)) s = .next u) ∧
        (u.findOpen key = none → u.hov.departures.find? (fun d => d.key == key) = none →
          exec (.claimHeard n (some key)) s = .next u) ∧
        (∀ d, u.findOpen key = none → u.hov.departures.find? (fun d => d.key == key) = some d →
          u.own ≠ 0 → u.dbi.class1.length < 16 →
          exec (.claimHeard n (some key)) s = .next { u with
            hov := { u.hov with departures := u.hov.departures.filter (fun x => x.key != key) }
            dbi := { u.dbi with class1 := u.dbi.class1 ++
              [⟨.release ⟨key, n, d.charge, d.capReached, u.rtk.voyage⟩, 0, u.timebase⟩] } }))) ∧
  (∀ (n key i : Nat) (old : Entry) (s : State),
      let u := hear n s
      n ≠ u.own → u.own ≠ 0 → u.findOpen key = some i → u.slot i = .opened old → old.claimPending = false →
      u.dbi.class1.length < 16 → u.rch.queue.length ≤ 14 →
      let e := old.rate true (u.prices u.rtk.zone u.slc.ratingLink old.partner)
      ∃ t, exec (.claimHeard n (some key)) s = .next t ∧
        (t.slot i).isOpen = false ∧ (∀ j, j ≠ i → t.slot j = u.slot j) ∧
        t.sub.attachOrder = u.sub.attachOrder.erase i ∧ t.hov = u.hov ∧
        t.dbi.class1 = u.dbi.class1 ++
          [⟨.release ⟨key, n, e.k, e.cap != 0 && e.k == e.cap, u.rtk.voyage⟩, 0, u.timebase⟩] ∧
        t.rch.queue = u.rch.queue ++ (if old.state = .active ∧ e.state = .barred then [.bar key] else []) ++
          [.releaseSub key] ∧
        (e.hasContent = true → u.bsd.store.length < 64 → u.sub.closingOrder = [] →
          t.bsd.store = u.bsd.store ++ [⟨u.bsd.nextSequence, u.buildRecord .handover e⟩]) ∧
        Touches [.sub, .bsd, .dbi, .rch] u t)

/-- A RELEASE heard (R54, R55): ignored where it names another station or none; counted stale where it names this one
and the key is not open or the voyage differs; else merged: K up to the ceiling, or the cap where the flag says it was
reached. That claimant 0 names no station at a listen-only station too, whose own number is 0, so that the frame is
ignored there and not counted, is the model's reading (log entry 30). -/
def Obligations.ReleaseIsMergedOrStale : Prop :=
  ∀ (n : Nat) (m : ReleaseMsg) (s : State),
    let u := hear n s
    let stale := { u with hov := { u.hov with staleReleases := min (u.hov.staleReleases + 1) 65535 } }
    (m.claimant ≠ u.own ∨ m.claimant = 0 → exec (.releaseHeard n (some m)) s = .next u) ∧
    (m.claimant = u.own → m.claimant ≠ 0 →
      (u.findOpen m.key = none → exec (.releaseHeard n (some m)) s = .next stale) ∧
      (m.voyage ≠ u.rtk.voyage → exec (.releaseHeard n (some m)) s = .next stale) ∧
      (∀ i e, u.findOpen m.key = some i → u.slot i = .opened e → m.voyage = u.rtk.voyage →
        let k := if m.capReached = true ∧ e.cap ≠ 0 then e.cap
          else min (e.k + m.charge) (if e.cap = 0 then 16777215 else e.cap)
        (e.state = .active ∧ e.cap ≠ 0 ∧ k = e.cap →
          exec (.releaseHeard n (some m)) s = .next (queueRadio (.bar m.key)
            (u.setSlot i (.opened { e with k := k, state := .barred, barredIn := true })))) ∧
        (¬(e.state = .active ∧ e.cap ≠ 0 ∧ k = e.cap) →
          exec (.releaseHeard n (some m)) s = .next (u.setSlot i (.opened { e with k := k })))))

/-- The class-1 queue when it is full (R169, R49): a RELEASE drops the oldest CLAIM not on the line and joins the
tail, the dropped key leaving the pending claims; where there is no such CLAIM the RELEASE is dropped; a CLAIM is
dropped. -/
def Obligations.FullClass1QueueDropsClaims : Prop :=
  ∀ s : State, s.own ≠ 0 → s.dbi.class1.length = 16 →
    let dropped := min (s.dbi.class1Drops + 1) 65535
    (∀ (m : ReleaseMsg) (held before after : List (Waiting Class1)) (w : Waiting Class1) (key : Nat),
      s.dbi.class1 = held ++ before ++ w :: after → w.frame = .claim key →
      (∀ x ∈ before, ∀ k, x.frame ≠ .claim k) →
      held.length = (if s.dbi.onLine = some .class1 then 1 else 0) →
      (offerRelease m s).dbi = { s.dbi with
          class1 := held ++ before ++ after ++ [⟨.release m, 0, s.timebase⟩], class1Drops := dropped } ∧
        (offerRelease m s).hov = { s.hov with pendingClaims := s.hov.pendingClaims.erase key } ∧
        Touches [.dbi, .hov, .sub] s (offerRelease m s)) ∧
    (∀ (m : ReleaseMsg) (held rest : List (Waiting Class1)),
      s.dbi.class1 = held ++ rest → (∀ x ∈ rest, ∀ k, x.frame ≠ .claim k) →
      held.length = (if s.dbi.onLine = some .class1 then 1 else 0) →
      offerRelease m s = { s with dbi := { s.dbi with class1Drops := dropped } }) ∧
    (∀ key, (offerClaim key s).dbi = { s.dbi with class1Drops := dropped } ∧
      (offerClaim key s).hov = { s.hov with pendingClaims := s.hov.pendingClaims.erase key })

/-! ## Billing (chapter 4) -/

/-- The end of an interval by an interval cause (R67, R69, R70, R72): no content, a new interval; content and room, the
record stored with the next sequence number and a new interval; content and no room, deferred, and MIXED at a change of
zone or link. The new interval is opened as R3 says, the record is what R65 and R66 say, and nothing else of the state
moves but the store and the sequence. -/
def Obligations.IntervalRecordIsTakenOrDeferred : Prop :=
  ∀ (cause : Cause) (i : Nat) (e : Entry) (s : State), s.slot i = .opened e →
    cause = .interval ∨ cause = .zone ∨ cause = .link ∨ cause = .voyage →
    let content := e.data ≠ 0 ∨ e.voice ≠ 0 ∨ e.charge ≠ 0 ∨ e.forgiven ≠ 0 ∨ e.overrunData ≠ 0 ∨ e.overrunVoice ≠ 0
    let room := s.bsd.store.length ≤ 47 ∧ s.sub.closingOrder = []
    let fresh := { e with
      start := s.timebase, data := 0, voice := 0, charge := 0, forgiven := 0, overrunData := 0, overrunVoice := 0
      saturated := false, mixed := false, barredIn := decide (e.state = .barred), zone := s.rtk.zone
      link := s.slc.ratingLink }
    s.openInterval e = fresh ∧
    s.buildRecord cause e =
      { key := e.key, station := s.own, voyage := s.rtk.voyage, cause := cause, zone := e.zone, link := e.link
        data := e.data, voice := e.voice, charge := e.charge, kAfter := e.k, mixed := e.mixed
        saturated := e.saturated, barredIn := e.barredIn, forgiven := e.forgiven
        overrunData := e.overrunData, overrunVoice := e.overrunVoice } ∧
    (¬content → offerInterval cause i s = s.setSlot i (.opened fresh)) ∧
    (content → room → offerInterval cause i s =
      State.setSlot { s with bsd := { s.bsd with
          store := s.bsd.store ++ [⟨s.bsd.nextSequence, s.buildRecord cause e⟩]
          nextSequence := if 65535 ≤ s.bsd.nextSequence then 0 else s.bsd.nextSequence + 1 } } i (.opened fresh)) ∧
    (content → ¬room → cause = .interval ∨ cause = .voyage → offerInterval cause i s = s) ∧
    (content → ¬room → cause = .zone ∨ cause = .link →
      offerInterval cause i s = s.setSlot i (.opened { e with mixed := true }))

/-- DRAIN-REQUEST (R74, R75, R77): acted on where it names this station; its count is held to 1..16; it begins a drain
from IDLE, which ends at once where the store is empty, reloads a running one, and waits in ENDING. A DRAIN-END sent
(R77): the drain state is IDLE, or a waiting count begins a drain at once. -/
def Obligations.DrainRequestsActByState : Prop :=
  (∀ (n target count : Nat) (s : State),
      let u := hear n s
      let m := max 1 (min count 16)
      (target ≠ u.own ∨ target = 0 → exec (.drainRequest n (some (target, count))) s = .next u) ∧
      (target = u.own → target ≠ 0 →
        (u.bsd.drain = .idle → u.bsd.store = [] →
          exec (.drainRequest n (some (target, count))) s = .next { u with
            bsd := { u.bsd with drain := .ending 0 none }
            dbi := { u.dbi with drainEnd := (some
              ⟨⟨.storeEmpty, 0, u.rtk.voyage, u.bsd.tallyWord, u.bsd.tallyCount⟩, 0, u.timebase⟩) } }) ∧
        (∀ r rest, u.bsd.drain = .idle → u.bsd.store = r :: rest → u.dbi.bill = none →
          exec (.drainRequest n (some (target, count))) s = .next { u with
            bsd := { u.bsd with drain := .running m 0 }
            dbi := { u.dbi with bill := some ⟨r, 0, u.timebase⟩ } }) ∧
        (∀ left sent w, u.bsd.drain = .running left sent → u.dbi.bill = some w →
          exec (.drainRequest n (some (target, count))) s =
            .next { u with bsd := { u.bsd with drain := .running m sent } }) ∧
        (∀ sent waiting, u.bsd.drain = .ending sent waiting →
          exec (.drainRequest n (some (target, count))) s =
            .next { u with bsd := { u.bsd with drain := .ending sent (some m) } }))) ∧
  (∀ (own : Option RxCheck) (w : Waiting DrainEndMsg) (sent : Nat) (s : State),
      s.own ≠ 0 → s.dbi.onLine = some .drainEnd → s.dbi.drainEnd = some w → s.dbi.bill = none →
      (s.bsd.drain = .ending sent none → ∃ t, exec (.frameSent own) s = .next t ∧
        t.bsd = { s.bsd with drain := .idle } ∧ t.dbi.drainEnd = none ∧ t.dbi.bill = none ∧
        Touches [.bsd, .dbi, .tbl] s t) ∧
      (∀ m r rest, s.bsd.drain = .ending sent (some m) → s.bsd.store = r :: rest →
        ∃ t, exec (.frameSent own) s = .next t ∧ t.bsd = { s.bsd with drain := .running m 0 } ∧
          t.dbi.drainEnd = none ∧ t.dbi.bill = some ⟨r, 0, s.timebase⟩ ∧ Touches [.bsd, .dbi, .tbl] s t))

/-- A BILL sent (R76 to R78), with no CLOSING slot waiting: its record leaves the head of the store, the tally takes
in its payload, and the drain ends COUNT_DONE, ends STORE_EMPTY, or goes on with the new head. Whether the part's own
reception of the frame passes changes none of it. Room in a full store (R19, R68, R72): as a BILL goes, the record of
the oldest CLOSING slot enters the store with the next sequence number, before the drain goes on, and its slot is
FREE. -/
def Obligations.SentBillLeavesTheStoreAndMakesRoom : Prop :=
  (∀ (own : Option RxCheck) (w : Waiting Stored) (left sent : Nat) (rest : List Stored) (s : State),
      s.own ≠ 0 → s.dbi.onLine = some .bill → s.dbi.bill = some w → s.dbi.drainEnd = none →
      s.bsd.drain = .running left sent → s.bsd.store = w.frame :: rest → s.sub.closingOrder = [] →
      let word := checkwordFrom s.bsd.tallyWord (billBytes w.frame)
      let tally := if 65535 ≤ s.bsd.tallyCount then 0 else s.bsd.tallyCount + 1
      let count := min (sent + 1) 255
      let drainEnd := fun status : StopStatus =>
        some (Waiting.mk (⟨status, count, s.rtk.voyage, word, tally⟩ : DrainEndMsg) 0 s.timebase)
      ∃ t, exec (.frameSent own) s = .next t ∧ t.bsd.store = rest ∧ t.bsd.tallyWord = word ∧ t.bsd.tallyCount = tally ∧
        t.bsd.nextSequence = s.bsd.nextSequence ∧ t.dbi.onLine = none ∧
        (left ≤ 1 → t.bsd.drain = .ending count none ∧ t.dbi.bill = none ∧ t.dbi.drainEnd = drainEnd .countDone) ∧
        (2 ≤ left → rest = [] →
          t.bsd.drain = .ending count none ∧ t.dbi.bill = none ∧ t.dbi.drainEnd = drainEnd .storeEmpty) ∧
        (2 ≤ left → ∀ r more, rest = r :: more →
          t.bsd.drain = .running (left - 1) count ∧ t.dbi.bill = some ⟨r, 0, s.timebase⟩ ∧ t.dbi.drainEnd = none) ∧
        Touches [.bsd, .dbi, .tbl] s t) ∧
  (∀ (own : Option RxCheck) (w : Waiting Stored) (left sent i : Nat) (more : List Nat) (record : Record)
      (rest : List Stored) (s : State),
      s.dbi.onLine = some .bill → s.dbi.bill = some w → s.bsd.drain = .running left sent →
      s.bsd.store = w.frame :: rest → s.bsd.store.length = 64 → s.sub.closingOrder = i :: more →
      s.slot i = .closing record →
      ∃ t, exec (.frameSent own) s = .next t ∧
        t.bsd.store = rest ++ [⟨s.bsd.nextSequence, record⟩] ∧
        t.bsd.nextSequence = (if 65535 ≤ s.bsd.nextSequence then 0 else s.bsd.nextSequence + 1) ∧
        t.slot i = .free ∧ t.sub.closingOrder = more ∧ (∀ j, j ≠ i → t.slot j = s.slot j) ∧
        Touches [.sub, .bsd, .dbi, .tbl] s t)

/-! ## Shore link (chapter 6) -/

/-- A LINK CARRY heard offers its carrier to the view (R114, R117, R119 to R121): taken where there is none, where the
view already names its station, and where it ranks higher; the rating link, the shore hold and the data gate follow,
with DATA-GATE queued where the gate changes. A view that changes to another link than the rating link is a LINK event
(R31, R120): each open entry is rated under the outgoing rating link, and its LINK record is stored and a new interval
opened under the new link, or it has no content and a new interval is opened, or the record is deferred and the entry
is MIXED (R69, R70), the BARs of these ratings going before the DATA-GATE. Without one no entry is rated. Where the
view keeps another carrier, all of it stays. A LINK DRAIN or DOWN from the station the view names clears the view and
the shore hold, closes the gate and leaves the rating link; from any other station it changes nothing (R118 to R121).
-/
def Obligations.LinkFramesMoveTheView : Prop :=
  (∀ (n link : Nat) (hold : Bool) (s : State),
      let u := hear n s
      let new : Carrier := ⟨n, link⟩
      let event := u.slc.view ≠ some new ∧ u.slc.ratingLink ≠ link
      let gate := if u.slc.gateOpen = !hold then [] else [RadioDirective.dataGate (!hold)]
      ∃ t, exec (.linkCarryHeard n link hold) s = .next t ∧
        (u.slc.view = none ∨ (∃ c, u.slc.view = some c ∧ (c.station = n ∨ outranks u.rtk.planLink new c = true)) →
          t.slc.view = some new ∧ t.slc.shoreHold = hold ∧ t.slc.gateOpen = !hold ∧
            t.slc.ratingLink = (if u.slc.view = some new then u.slc.ratingLink else link) ∧
            (¬event → t.sub = u.sub ∧ t.bsd = u.bsd ∧
              (u.rch.queue.length < 16 → t.rch.queue = u.rch.queue ++ gate)) ∧
            (event → OrdersLaw u →
              let rated := fun old : Entry => old.rate false (u.prices u.rtk.zone u.slc.ratingLink old.partner)
              let w := { u with slc := { u.slc with ratingLink := link } }
              let room := u.bsd.store.length + u.sub.attachOrder.length ≤ 48 ∧ u.sub.closingOrder = []
              t.sub.attachOrder = u.sub.attachOrder ∧ t.sub.closingOrder = u.sub.closingOrder ∧
              (∀ i, (u.slot i).isOpen = false → t.slot i = u.slot i) ∧
              (∀ i old, u.slot i = .opened old →
                let e := rated old
                (e.hasContent = false → t.slot i = .opened (w.openInterval e)) ∧
                (e.hasContent = true → room → t.slot i = .opened (w.openInterval e) ∧
                  ∃ r ∈ t.bsd.store, r.record = u.buildRecord .link e) ∧
                (e.hasContent = true → 48 ≤ u.bsd.store.length ∨ u.sub.closingOrder ≠ [] →
                  t.slot i = .opened { e with mixed := true })) ∧
              (u.rch.queue.length + u.sub.attachOrder.length < 16 → t.rch.queue = u.rch.queue ++
                (u.sub.attachOrder.filterMap u.entry?).filterMap (fun old =>
                  if old.state = .active ∧ (rated old).state = .barred then some (.bar old.key) else none) ++ gate))) ∧
        Touches [.sub, .bsd, .slc, .tch, .dbi, .rch] u t ∧
        (∀ c, u.slc.view = some c → c.station ≠ n → outranks u.rtk.planLink new c = false →
          t.slc.view = some c ∧ t.slc.shoreHold = u.slc.shoreHold ∧ t.slc.gateOpen = u.slc.gateOpen ∧
            t.slc.ratingLink = u.slc.ratingLink ∧ Touches [.slc, .tch, .dbi] u t)) ∧
  (∀ (n link : Nat) (hold failed : Bool) (s : State),
      let u := hear n s
      ((∀ c, u.slc.view = some c → c.station ≠ n) →
        exec (.linkDrainHeard n link hold) s = .next u ∧ exec (.linkDownHeard n link hold failed) s = .next u) ∧
      (∀ c, u.slc.view = some c → c.station = n →
        ∃ t, exec (.linkDrainHeard n link hold) s = .next t ∧ exec (.linkDownHeard n link hold failed) s = .next t ∧
          t.slc.view = none ∧ t.slc.shoreHold = false ∧ t.slc.gateOpen = false ∧
          t.slc.ratingLink = u.slc.ratingLink ∧
          (u.slc.gateOpen = true → u.rch.queue.length < 16 →
            t.rch.queue = u.rch.queue ++ [.dataGate false]) ∧
          Touches [.slc, .tch, .dbi, .rch] u t))

/-- A CARRYING station that hears a LINK CARRY of a higher-ranked carrier, or a BEACON that shows one CARRYING, drains
(R109, R110): CARRY-OFF and LINK DRAIN are queued and 30 s are started; one that hears a lower-ranked one stays
CARRYING. -/
def Obligations.OutrankedCarrierDrains : Prop :=
  (∀ (n link : Nat) (hold : Bool) (s : State),
    let u := hear n s
    n ≠ u.own → u.slc.phase = .carrying →
    (outranks u.rtk.planLink ⟨n, link⟩ ⟨u.own, u.ownLink⟩ = true →
      ∃ t, exec (.linkCarryHeard n link hold) s = .next t ∧ t.slc.phase = .draining ∧
        t.slc.drainAt = some (s.timebase + 30000) ∧
        (u.tch.queue.length < 4 → t.tch.queue = u.tch.queue ++ [.carryOff]) ∧
        (u.own ≠ 0 → u.dbi.onLine ≠ some .link →
          ∃ w, t.dbi.link = some w ∧ w.frame = ⟨u.ownLink, u.slc.hold, .drain⟩) ∧
        Touches [.sub, .bsd, .slc, .tch, .dbi, .rch] u t) ∧
    (outranks u.rtk.planLink ⟨n, link⟩ ⟨u.own, u.ownLink⟩ = false →
      ∃ t, exec (.linkCarryHeard n link hold) s = .next t ∧ t.slc.phase = .carrying ∧ t.tch = u.tch ∧
        Touches [.sub, .bsd, .slc, .rch] u t)) ∧
  (∀ (n : Nat) (m : BeaconMsg) (s : State),
    n ≠ s.own → s.slc.phase = .carrying → m.serving ≠ .starting → m.phase = .carrying →
    (outranks s.rtk.planLink ⟨n, m.linkId⟩ ⟨s.own, s.ownLink⟩ = true →
      ∃ t, exec (.beaconHeard n (some m)) s = .next t ∧ t.slc.phase = .draining ∧
        t.slc.drainAt = some (s.timebase + 30000) ∧
        (s.tch.queue.length < 4 → t.tch.queue = s.tch.queue ++ [.carryOff]) ∧
        (s.own ≠ 0 → s.dbi.onLine ≠ some .link →
          ∃ w, t.dbi.link = some w ∧ w.frame = ⟨s.ownLink, s.slc.hold, .drain⟩) ∧
        Touches [.sub, .bsd, .slc, .prc, .tbl, .tch, .dbi, .rch] s t) ∧
    (outranks s.rtk.planLink ⟨n, m.linkId⟩ ⟨s.own, s.ownLink⟩ = false →
      ∃ t, exec (.beaconHeard n (some m)) s = .next t ∧ t.slc.phase = .carrying ∧
        Touches [.sub, .bsd, .slc, .prc, .tbl, .rch] s t))

/-- The ranking (R114): a carrier on the plan link first, then the lower link id, then the lower station number; and
of two different carriers exactly one ranks above the other, transitively. -/
def Obligations.RankingIsATotalOrder : Prop :=
  ∀ (plan : Nat) (a b c : Carrier),
    (a.link = plan → b.link ≠ plan → outranks plan a b = true) ∧
    ((a.link = plan ↔ b.link = plan) → a.link < b.link → outranks plan a b = true) ∧
    (a.link = b.link → a.station < b.station → outranks plan a b = true) ∧
    outranks plan a a = false ∧ (a ≠ b → outranks plan a b = !outranks plan b a) ∧
    (outranks plan a b = true → outranks plan b c = true → outranks plan a c = true)

/-- The settle timer and the quality reports (R105, R106, R108). The settle timer leads to PROBING where the terminal
channel is UP, and to FAILED where it is LOST, with DEACTIVATE, a LINK DOWN marked failed and the retry timer (R111); a
report at or above the threshold counts towards the run, one below starts it again, and the run in step leads to
STANDBY, here with the link wanted and no carry condition; five reports below the floor in CARRYING lead to FAILED. The
evaluation of the wanted condition (R102), and in STANDBY of the carry condition (R103, R106), at a terminal station:
OFF and wanted leads to SETTLING, with ACTIVATE, the silence time afresh and the settle time of the own row (R104,
R179), or, with a settle time of 0, on to PROBING or FAILED as the channel stands (R105); SETTLING, PROBING or STANDBY
and not wanted leads to OFF, with DEACTIVATE (R105, R106); STANDBY, wanted, with the carry condition leads to CARRYING,
with CARRY-ON, a LINK CARRY and the below-floor count 0 (R106, R107); nothing else follows from it. What the run count
holds past PROBING, and the below-floor count past CARRYING, is the model's choice (log entries 33 and 15). -/
def Obligations.QualityMovesThePhase : Prop :=
  (∀ (score : Nat) (s : State), s.isTerminal = true →
      let g := terminalGood s
      let row := s.tbl.links.getD s.ownLink .zero
      (∀ d, s.slc.phase = .settling → s.slc.settleAt = some d → d ≤ s.timebase → s.tch.up = true →
        exec .settleTimerExpiry s =
          .next { s with slc := { s.slc with phase := .probing, settleAt := none, runCount := 0 } }) ∧
      (∀ d, s.slc.phase = .settling → s.slc.settleAt = some d → d ≤ s.timebase → s.tch.up = false →
        s.tch.queue.length < 4 → s.dbi.link = none →
        exec .settleTimerExpiry s = .next { s with
          slc := { s.slc with
            phase := .failed, activated := false, settleAt := none, drainAt := none, runCount := 0
            retryAt := some (s.timebase + 10000) }
          tch := { s.tch with queue := s.tch.queue ++ [.deactivate], sending := s.tch.sending || !s.tch.markHold }
          dbi := { s.dbi with link := some ⟨⟨s.ownLink, s.slc.hold, .down true⟩, 0, s.timebase⟩ } }) ∧
      (s.slc.phase = .probing →
        (score < row.threshold → exec (.quality score) s = .next { g with slc := { s.slc with runCount := 0 } }) ∧
        (row.threshold ≤ score → s.slc.runCount + 1 < max 2 row.run → s.slc.runCount < 15 →
          exec (.quality score) s = .next { g with slc := { s.slc with runCount := s.slc.runCount + 1 } }) ∧
        (row.threshold ≤ score → max 2 row.run ≤ s.slc.runCount + 1 → s.slc.runCount < 15 →
          let v := { g with slc := { s.slc with runCount := s.slc.runCount + 1, phase := .standby } }
          v.wanted = true → v.carryCondition = false → exec (.quality score) s = .next v)) ∧
      (s.slc.phase = .carrying →
        (row.floor ≤ score → exec (.quality score) s = .next { g with slc := { s.slc with belowFloor := 0 } }) ∧
        (score < row.floor → s.slc.belowFloor < 4 →
          exec (.quality score) s = .next { g with slc := { s.slc with belowFloor := s.slc.belowFloor + 1 } }) ∧
        (score < row.floor → 4 ≤ s.slc.belowFloor →
          ∃ t, exec (.quality score) s = .next t ∧ t.slc.phase = .failed ∧ t.slc.activated = false ∧
            t.slc.retryAt = some (s.timebase + 10000) ∧ Touches [.slc, .tch, .dbi] s t)) ∧
      (s.slc.phase ≠ .probing → s.slc.phase ≠ .carrying → exec (.quality score) s = .next g)) ∧
  (∀ s : State,
      let row := s.tbl.links.getD s.ownLink .zero
      let queued := fun (d : TerminalDirective) (c : Chan TerminalDirective) =>
        { c with queue := c.queue ++ [d], sending := c.sending || !c.markHold }
      let known := fun x : Nat => (s.slc.phase = .standby ∧ s.ownLink = x) ∨
        ∃ p ∈ s.prc.roster, (p.state = .present ∨ p.state = .quiet) ∧
          ∃ b, p.beacon = some b ∧ b.linkId = x ∧ b.phase = .standby
      (s.wanted = true ↔ s.ownLink ≠ 0 ∧ (s.ownLink = s.rtk.planLink ∨ s.ownLink = s.rtk.nextPlanLink ∨
        (s.ownLink = s.tbl.route.fallback ∧ s.slc.view = none ∧ s.prc.serving ≠ .starting))) ∧
      (s.ownLink < 8 → (s.carryCondition = true ↔ s.slc.phase = .standby ∧
        ((s.ownLink = s.rtk.planLink ∧ ∀ c, s.slc.view = some c → c.link ≠ s.ownLink) ∨
          (s.slc.view = none ∧ s.prc.serving ≠ .starting ∧
            (s.ownLink = s.tbl.route.fallback ∨
              ((s.tbl.route.fallback = 0 ∨ ¬known s.tbl.route.fallback) ∧ ∀ x, x < s.ownLink → ¬known x)))))) ∧
      (s.isTerminal = false → evaluate s = s) ∧
      (s.isTerminal = true →
        (s.slc.phase = .off → s.wanted = true →
          (row.settleTime ≠ 0 → s.tch.queue.length < 4 → evaluate s = { s with
            slc := { s.slc with phase := .settling, activated := true, settleAt := some (s.timebase + row.settleTime) }
            tch := { queued .activate s.tch with silenceFrom := some s.timebase } }) ∧
          (row.settleTime = 0 → s.tch.up = true → (evaluate s).slc =
            { s.slc with phase := .probing, activated := true, settleAt := none, runCount := 0 }) ∧
          (row.settleTime = 0 → s.tch.up = false → (evaluate s).slc =
            { s.slc with
              phase := .failed, activated := false, settleAt := none, drainAt := none, runCount := 0
              retryAt := some (s.timebase + 10000) })) ∧
        (s.slc.phase = .settling ∨ s.slc.phase = .probing ∨ s.slc.phase = .standby → s.wanted = false →
          s.tch.queue.length < 4 → evaluate s = { s with
            slc := { s.slc with
              phase := .off, activated := false, settleAt := none, drainAt := none, retryAt := none, runCount := 0 }
            tch := queued .deactivate s.tch }) ∧
        (s.slc.phase = .standby → s.wanted = true → s.carryCondition = true → s.tch.queue.length < 4 →
          s.dbi.link = none → evaluate s = { s with
            slc := { s.slc with phase := .carrying, belowFloor := 0 }
            tch := queued .carryOn s.tch
            dbi := { s.dbi with link := some ⟨⟨s.ownLink, s.slc.hold, .carry⟩, 0, s.timebase⟩ } }) ∧
        (s.slc.phase = .off ∧ s.wanted = false ∨
            (s.slc.phase = .settling ∨ s.slc.phase = .probing) ∧ s.wanted = true ∨
            s.slc.phase = .standby ∧ s.wanted = true ∧ s.carryCondition = false ∨
            s.slc.phase = .carrying ∨ s.slc.phase = .draining ∨ s.slc.phase = .failed ∨ s.slc.phase = .none →
          evaluate s = s)))

/-- The end of a drain of flows (R110), at STATUS IDLE or at the drain timer, with the link not wanted: DEACTIVATE and
a LINK DOWN not marked failed are queued and the phase is OFF. With the link still wanted OFF is left again at once,
here with a settle time above 0: ACTIVATE follows the DEACTIVATE and the settle time starts afresh (R104). STATUS IDLE
does nothing in another phase (R112). The retry timer runs out in FAILED (R111): a wanted link is activated and
settles, here with a settle time above 0; one that is not wanted is OFF. That the run count is 0 after a drain is the
model's choice (log entry 33). -/
def Obligations.DrainAndRetryTimersEndTheirPhases : Prop :=
  (∀ s : State, s.isTerminal = true →
      (s.slc.phase ≠ .draining → exec .statusIdle s = .next (terminalGood s)) ∧
      (s.slc.phase = .draining → s.wanted = false → s.tch.queue.length < 4 → s.dbi.link = none →
        let off := { s.slc with
          phase := .off, activated := false, settleAt := none, drainAt := none, retryAt := none, runCount := 0 }
        let bus := { s.dbi with link := some ⟨⟨s.ownLink, s.slc.hold, .down false⟩, 0, s.timebase⟩ }
        let sent := fun c : Chan TerminalDirective =>
          { c with queue := c.queue ++ [.deactivate], sending := c.sending || !c.markHold }
        exec .statusIdle s = .next { s with slc := off, dbi := bus, tch := sent (terminalGood s).tch } ∧
        (∀ d, s.slc.drainAt = some d → d ≤ s.timebase →
          exec .drainTimerExpiry s = .next { s with slc := off, dbi := bus, tch := sent s.tch })) ∧
      (s.slc.phase = .draining → s.wanted = true → s.tch.queue.length < 3 → s.dbi.link = none →
        (s.tbl.links.getD s.ownLink LinkRow.zero).settleTime ≠ 0 →
        let again := { s.slc with
          phase := .settling, activated := true, drainAt := none, retryAt := none, runCount := 0
          settleAt := some (s.timebase + (s.tbl.links.getD s.ownLink LinkRow.zero).settleTime) }
        let bus := { s.dbi with link := some ⟨⟨s.ownLink, s.slc.hold, .down false⟩, 0, s.timebase⟩ }
        let sent := fun c : Chan TerminalDirective => { c with
          queue := c.queue ++ [.deactivate, .activate], sending := c.sending || !c.markHold
          silenceFrom := some s.timebase }
        exec .statusIdle s = .next { s with slc := again, dbi := bus, tch := sent (terminalGood s).tch } ∧
        (∀ d, s.slc.drainAt = some d → d ≤ s.timebase →
          exec .drainTimerExpiry s = .next { s with slc := again, dbi := bus, tch := sent s.tch }))) ∧
  (∀ (d : Nat) (s : State), s.isTerminal = true → s.slc.phase = .failed → s.slc.retryAt = some d → d ≤ s.timebase →
      (s.wanted = false → exec .retryTimerExpiry s = .next { s with slc := { s.slc with
        phase := .off, settleAt := none, drainAt := none, retryAt := none, runCount := 0 } }) ∧
      (s.wanted = true → (s.tbl.links.getD s.ownLink LinkRow.zero).settleTime ≠ 0 →
        ∃ t, exec .retryTimerExpiry s = .next t ∧ t.slc.phase = .settling ∧ t.slc.activated = true ∧
          t.slc.settleAt = some (s.timebase + (s.tbl.links.getD s.ownLink LinkRow.zero).settleTime) ∧
          t.slc.retryAt = none ∧ t.tch.silenceFrom = some s.timebase ∧
          (s.tch.queue.length < 4 → t.tch.queue = s.tch.queue ++ [.activate]) ∧ Touches [.slc, .tch] s t))

/-- Failure (R111): STATUS DOWN, and the terminal channel becoming LOST on a break (R178) or on a silence of 1000 ms
while activated (R179), take an activated phase to FAILED, with DEACTIVATE and a LINK DOWN marked failed queued and the
retry timer of 10 s started; in OFF and FAILED a STATUS DOWN and a break do nothing to shore link control. A break of a
channel that is LOST already only leaves its receiver hunting (R178), and a silence is watched only while the terminal
is activated (R179). -/
def Obligations.TerminalFailureEntersFailed : Prop :=
  ∀ s : State, s.isTerminal = true →
    let failed := { s.slc with
      phase := .failed, activated := false, settleAt := none, drainAt := none, runCount := 0
      retryAt := some (s.timebase + 10000) }
    let bus := { s.dbi with link := some ⟨⟨s.ownLink, s.slc.hold, .down true⟩, 0, s.timebase⟩ }
    let sent := fun c : Chan TerminalDirective =>
      { c with queue := c.queue ++ [.deactivate], sending := c.sending || !c.markHold }
    let broken := { s.tch with up := false, receiver := .hunting }
    (activatedPhase s.slc.phase = true → s.tch.queue.length < 4 → s.dbi.link = none →
      exec .statusDown s = .next { s with slc := failed, dbi := bus, tch := sent (terminalGood s).tch } ∧
      (s.tch.up = true →
        exec (.channelBreak .terminal) s = .next { s with slc := failed, dbi := bus, tch := sent broken } ∧
        ∀ h, PhaseLaw s → s.tch.silenceFrom = some h → 1000 ≤ s.timebase - h →
          exec .terminalSilenceExpiry s =
            .next { s with slc := failed, dbi := bus, tch := sent { s.tch with up := false } })) ∧
    (activatedPhase s.slc.phase = false →
      exec .statusDown s = .next (terminalGood s) ∧
      (s.tch.up = true → exec (.channelBreak .terminal) s = .next { s with tch := broken }) ∧
      (PhaseLaw s → exec .terminalSilenceExpiry s = .next s)) ∧
    (s.tch.up = false →
      exec (.channelBreak .terminal) s = .next { s with tch := { s.tch with receiver := .hunting } } ∧
      exec .terminalSilenceExpiry s = .next s)

/-- The terminal's hold line (R112, R113, R183) and STATUS UP (R112): a change of the line moves the hold flag and,
while CARRYING, queues a LINK CARRY with the new flag, which enters an empty class-2 queue, replaces the LINK that
waits there unsent, keeping its deferral and age, or waits beside the one on the line, in the place, with the deferral
and the age, of a LINK that waits beside already (R168, R170). A level already held changes nothing, and at a station
that is no terminal station only the pin's level moves (R180): both are the model's reading (log entry 28). STATUS UP
makes the channel UP and changes nothing else. -/
def Obligations.TerminalHoldLineMovesTheFlag : Prop :=
  ∀ (asserted : Bool) (s : State),
    (s.isTerminal = false →
      exec (.terminalHoldLineChange asserted) s = .next { s with terminalHold := asserted } ∧
      exec .statusUp s = .next s) ∧
    (s.isTerminal = true →
      exec .statusUp s = .next { s with tch := { s.tch with
        receiver := .hunting, up := true, silenceFrom := some s.timebase } } ∧
      (s.slc.hold = asserted →
        exec (.terminalHoldLineChange asserted) s = .next { s with terminalHold := asserted }) ∧
      (s.slc.hold ≠ asserted → s.slc.phase ≠ .carrying →
        exec (.terminalHoldLineChange asserted) s =
          .next { s with terminalHold := asserted, slc := { s.slc with hold := asserted } }) ∧
      (s.slc.hold ≠ asserted → s.slc.phase = .carrying →
        let m : LinkMsg := ⟨s.ownLink, asserted, .carry⟩
        let changed := fun d : Dbi => Host.Outcome.next (φ := Fault) (ρ := Refusal)
          { s with terminalHold := asserted, slc := { s.slc with hold := asserted }, dbi := d }
        (s.dbi.link = none →
          exec (.terminalHoldLineChange asserted) s = changed { s.dbi with link := some ⟨m, 0, s.timebase⟩ }) ∧
        (∀ w, s.dbi.link = some w → s.dbi.onLine ≠ some .link →
          exec (.terminalHoldLineChange asserted) s = changed { s.dbi with link := some { w with frame := m } }) ∧
        (∀ w, s.dbi.link = some w → s.dbi.onLine = some .link →
          (s.dbi.linkBeside = none → exec (.terminalHoldLineChange asserted) s =
            changed { s.dbi with linkBeside := some ⟨m, 0, s.timebase⟩ }) ∧
          (∀ b, s.dbi.linkBeside = some b → exec (.terminalHoldLineChange asserted) s =
            changed { s.dbi with linkBeside := some { b with frame := m } }))))

/-! ## Peer roster and coverage (chapter 7) -/

/-- A BEACON heard (R117, R118, R130): the entry of its sender becomes PRESENT with the four copied fields, and the
view takes a carrying sender where it is none and is cleared where a carrier stops carrying. The cover decision (R133,
R134): a neighbour whose BEACON shows DARK joins the tail of a SERVING station's cover set, with COVER on; a member
whose BEACON shows SERVING starts its return hold of 5000 ms; one whose BEACON shows DORMANT, no hold running, leaves
it, with COVER off; one whose BEACON shows either while its hold runs stays, its hold running on; one that shows DARK
has its return hold cancelled. That a BEACON's hearing and its copied fields are one change of the entry, so that a
LOST member is judged by what its BEACON shows and not by what it last showed, is the model's reading (log entry 12).
-/
def Obligations.BeaconsFillTheRosterAndDecideTheCover : Prop :=
  (∀ (n : Nat) (m : BeaconMsg) (e : Peer) (s : State),
      n ≠ s.own → m.serving ≠ .starting → s.peer? n = some e →
      ∃ t, exec (.beaconHeard n (some m)) s = .next t ∧
        t.peer? n = some { e with
          state := .present, lastHeard := some s.timebase, beacon := some ⟨m.serving, m.phase, m.linkId, m.leg⟩ } ∧
        (∀ p, p ≠ n → t.peer? p = s.peer? p) ∧
        t.tbl = { s.tbl with window := s.tbl.window.filter (fun w => w.sender != n) } ∧
        (m.phase = .carrying → s.slc.view = none →
          t.slc.view = some ⟨n, m.linkId⟩ ∧ t.slc.shoreHold = m.hold ∧ t.slc.gateOpen = !m.hold) ∧
        (∀ c, m.phase ≠ .carrying → s.slc.view = some c →
          t.slc.view = if c.station = n then none else some c) ∧
        Touches [.sub, .bsd, .slc, .prc, .tbl, .dbi, .rch, .tch] s t) ∧
  (∀ (n : Nat) (m : BeaconMsg) (e : Peer) (s : State),
      n ≠ s.own → s.prc.serving = .serving → s.peer? n = some e → e.neighbour = true → m.phase ≠ .carrying →
      (∀ c, s.slc.view = some c → c.station ≠ n) → s.slc.phase ≠ .standby →
      (m.serving = .dark → s.covers n = false → ∃ t, exec (.beaconHeard n (some m)) s = .next t ∧
        t.prc.cover = s.prc.cover ++ [⟨n, none⟩] ∧ Touches [.prc, .tbl, .rch] s t ∧
        (s.rch.queue.length < 16 → t.rch.queue = s.rch.queue ++ [.cover n true])) ∧
      (s.covers n = true →
        (m.serving = .dark → ∃ t, exec (.beaconHeard n (some m)) s = .next t ∧ Touches [.prc, .tbl] s t ∧
          t.prc.cover = s.prc.cover.map (fun x => if x.station = n then { x with holdUntil := none } else x)) ∧
        ((∃ x ∈ s.prc.cover, x.station = n ∧ x.holdUntil ≠ none) → m.serving = .serving ∨ m.serving = .dormant →
          ∃ t, exec (.beaconHeard n (some m)) s = .next t ∧ Touches [.prc, .tbl] s t ∧ t.prc.cover = s.prc.cover) ∧
        ((∀ x ∈ s.prc.cover, x.station = n → x.holdUntil = none) → m.serving = .serving →
          ∃ t, exec (.beaconHeard n (some m)) s = .next t ∧ Touches [.prc, .tbl] s t ∧
            t.prc.cover = s.prc.cover.map
              (fun x => if x.station = n then { x with holdUntil := some (s.timebase + 5000) } else x)) ∧
        ((∀ x ∈ s.prc.cover, x.station = n → x.holdUntil = none) → m.serving = .dormant →
          ∃ t, exec (.beaconHeard n (some m)) s = .next t ∧
            t.prc.cover = s.prc.cover.filter (fun x => x.station != n) ∧ Touches [.prc, .tbl, .rch] s t ∧
            (s.rch.queue.length < 16 → t.rch.queue = s.rch.queue ++ [.cover n false]))))

/-- The fall of a silent peer (R131, R118, R133): QUIET after 750 ms, LOST after 2000 ms; LOST clears a view that
names it, and a LOST neighbour joins a SERVING station's cover set. -/
def Obligations.SilentPeersFall : Prop :=
  ∀ (p h : Nat) (e : Peer) (s : State), s.peer? p = some e → e.lastHeard = some h →
    (e.state = .present → 750 ≤ s.timebase - h →
      ∃ t, exec (.peerQuiet p) s = .next t ∧ t.peer? p = some { e with state := .quiet } ∧
        (∀ q, q ≠ p → t.peer? q = s.peer? q) ∧ t.slc.view = s.slc.view ∧
        Touches [.prc, .slc, .tch, .dbi, .rch] s t) ∧
    (e.state = .present ∨ e.state = .quiet → 2000 ≤ s.timebase - h →
      ∃ t, exec (.peerLost p) s = .next t ∧ t.peer? p = some { e with state := .lost } ∧
        (∀ q, q ≠ p → t.peer? q = s.peer? q) ∧
        t.slc.view = (if s.viewNames p then none else s.slc.view) ∧
        (e.neighbour = true → s.prc.serving = .serving → s.covers p = false →
          t.prc.cover = s.prc.cover ++ [⟨p, none⟩]) ∧
        Touches [.prc, .slc, .tch, .dbi, .rch] s t)

/-- The end of the listen period (R127, R129): DORMANT where the silence status is silent, else DARK with the orphan
timer where the deadline has passed or the radio channel is LOST, else SERVING; the beacon schedule starts, with a
BEACON queued. A beacon time (R129): the next one is 250 ms on, and a BEACON is queued where none waits. Where no open
interval is 900 s old nothing else follows; an entry whose interval is 900 s old or older is rated (R30), and its
INTERVAL record is stored and a new interval opened, or it has no content and a new interval is opened, or the record
is deferred and the interval stays open (R67, R69); a younger interval stays as it is. -/
def Obligations.BeaconScheduleStartsAndGoesOn : Prop :=
  (∀ (d : Nat) (s : State), s.prc.serving = .starting → s.prc.listenUntil = some d → d ≤ s.timebase → s.own ≠ 0 →
      ∃ t, exec .listenPeriodEnd s = .next t ∧ t.prc.listenUntil = none ∧
        t.prc.nextBeacon = some (s.timebase + 250) ∧ t.dbi.beacon.isSome = true ∧
        (s.rtk.silent = true → t.prc.serving = .dormant ∧ t.prc.dwellUntil = some (s.timebase + 2000)) ∧
        (s.rtk.silent = false → s.prc.healthDeadline = none ∨ s.rch.up = false →
          t.prc.serving = .dark ∧ t.prc.orphanAt = some (s.timebase + 30000)) ∧
        (s.rtk.silent = false → s.prc.healthDeadline ≠ none → s.rch.up = true → t.prc.serving = .serving) ∧
        (s.rtk.silent = false → s.rch.queue.length ≤ 13 → s.sub.attachOrder = [] →
          s.rch.queue ++ [.wake, .identity (s.tbl.zones.getD s.rtk.zone 0), .dataGate s.slc.gateOpen] <+: t.rch.queue) ∧
        Touches [.sub, .hov, .bsd, .slc, .prc, .dbi, .rch, .tch] s t) ∧
  (∀ (d : Nat) (s : State), s.prc.serving ≠ .starting → s.prc.nextBeacon = some d → d ≤ s.timebase → s.own ≠ 0 →
      let schedule := { s.prc with nextBeacon := some (d + 250) }
      let bus := { s.dbi with beacon := match s.dbi.beacon with
        | some w => some w
        | none => some ⟨none, 0, s.timebase⟩ }
      ((∀ i ∈ s.sub.attachOrder, ∀ e, s.slot i = .opened e → s.timebase - e.start < 900000) →
        exec .beaconTime s = .next { s with prc := schedule, dbi := bus }) ∧
      (OrdersLaw s → ∃ t, exec .beaconTime s = .next t ∧ t.prc = schedule ∧ t.dbi = bus ∧
        t.sub.attachOrder = s.sub.attachOrder ∧ t.sub.closingOrder = s.sub.closingOrder ∧
        (∀ i, (s.slot i).isOpen = false → t.slot i = s.slot i) ∧
        (∀ i old, s.slot i = .opened old →
          let e := old.rate false (s.prices s.rtk.zone s.slc.ratingLink old.partner)
          (s.timebase - old.start < 900000 → t.slot i = .opened old) ∧
          (900000 ≤ s.timebase - old.start →
            (e.hasContent = false → t.slot i = .opened (s.openInterval e)) ∧
            (e.hasContent = true → s.sub.closingOrder = [] → s.bsd.store.length + s.sub.attachOrder.length ≤ 48 →
              t.slot i = .opened (s.openInterval e) ∧ ∃ r ∈ t.bsd.store, r.record = s.buildRecord .interval e) ∧
            (e.hasContent = true → 48 ≤ s.bsd.store.length ∨ s.sub.closingOrder ≠ [] → t.slot i = .opened e))) ∧
        Touches [.prc, .dbi, .sub, .bsd, .rch] s t))

/-- HEALTH and HOLD (R137, R138, R142): HEALTH sets the deadline 1000 ms ahead, makes the allowance available and
clears the mark, and returns a DARK station to service; HOLD sets the deadline 5000 ms ahead and uses the allowance,
or is counted as refused. -/
def Obligations.HealthAndHoldMoveTheDeadline : Prop :=
  ∀ s : State,
    let g := radioGood s
    let healthy := { s.prc with
      healthDeadline := some (s.timebase + 1000), holdUsed := false, deadlineByHold := false }
    (s.prc.serving ≠ .dark → exec .health s = .next { g with prc := healthy }) ∧
    (s.prc.serving = .dark → s.rtk.silent = false → ∃ t, exec .health s = .next t ∧
      t.prc.serving = .serving ∧ t.prc.orphanAt = none ∧ t.prc.healthDeadline = some (s.timebase + 1000) ∧
      t.prc.holdUsed = false ∧ t.prc.deadlineByHold = false ∧ t.sub = s.sub ∧ Touches [.prc, .rch] s t) ∧
    (s.prc.serving = .dark → s.rtk.silent = true → OrdersLaw s → ∃ t, exec .health s = .next t ∧
      t.prc.serving = .dormant ∧ t.prc.orphanAt = none ∧ t.prc.healthDeadline = some (s.timebase + 1000) ∧
      t.prc.holdUsed = false ∧ t.prc.deadlineByHold = false ∧ t.sub.attachOrder = [] ∧
      t.prc.dwellUntil = some (s.timebase + 2000) ∧ Touches [.sub, .hov, .bsd, .prc, .rch] s t) ∧
    (s.prc.holdUsed = false → exec .hold s = .next { g with prc := { s.prc with
      healthDeadline := some (s.timebase + 5000), holdUsed := true, deadlineByHold := true } }) ∧
    (s.prc.holdUsed = true → exec .hold s =
      .next { g with prc := { s.prc with refusedHolds := min (s.prc.refusedHolds + 1) 65535 } })

/-- The ways into DARK (R139, R140, R178, R179): a SERVING station becomes DARK as its health deadline passes, whatever
its radio channel's state, and as the radio channel becomes LOST on a break or on a silence of 1000 ms while the
deadline is not one set by HOLD; its cover set is emptied, with COVER off for each member (R136), the orphan timer of
30 s is started, and its entries are kept. Outside SERVING, and under a HOLD, the loss is only recorded, and outside
SERVING the deadline's passing too. A break leaves the receiver hunting (R178). The orphan timer runs out in DARK
(R141, R20): every open entry is closed, the station stays DARK, and no RELEASE-SUB goes. That the passing of the
deadline leaves the mark of R137, that it was set by HOLD, as it was is the model's choice (log entry 14). -/
def Obligations.DarkStationsCloseTheirOrphans : Prop :=
  (∀ s : State,
      let dark := fun (held : Option Nat) (t : State) => t.prc.serving = .dark ∧ t.prc.healthDeadline = held ∧
        t.prc.cover = [] ∧ t.prc.orphanAt = some (s.timebase + 30000) ∧ Touches [.prc, .rch] s t ∧
        (s.rch.queue.length + s.prc.cover.length ≤ 16 →
          t.rch.queue = s.rch.queue ++ s.prc.cover.map (fun m => .cover m.station false))
      let broken := { s with rch := { s.rch with up := false, receiver := .hunting } }
      let silenced := { s with rch := { s.rch with up := false } }
      (∀ d, s.prc.healthDeadline = some d → d ≤ s.timebase →
        (s.prc.serving = .serving → ∃ t, exec .healthDeadlinePassed s = .next t ∧ dark none t ∧ t.rch.up = s.rch.up) ∧
        (s.prc.serving ≠ .serving → exec .healthDeadlinePassed s =
          .next { s with prc := { s.prc with healthDeadline := none } })) ∧
      (s.rch.up = true →
        (s.prc.serving = .serving → s.prc.deadlineByHold = false → ∃ t, exec (.channelBreak .radio) s = .next t ∧
          dark s.prc.healthDeadline t ∧ t.rch.up = false ∧ t.rch.receiver = .hunting) ∧
        (s.prc.serving ≠ .serving ∨ (s.prc.deadlineByHold = true ∧ s.prc.healthDeadline ≠ none) →
          exec (.channelBreak .radio) s = .next broken) ∧
        (∀ h, s.rch.silenceFrom = some h → 1000 ≤ s.timebase - h →
          (s.prc.serving = .serving → s.prc.deadlineByHold = false → ∃ t, exec .radioSilenceExpiry s = .next t ∧
            dark s.prc.healthDeadline t ∧ t.rch.up = false ∧ t.rch.receiver = s.rch.receiver) ∧
          (s.prc.serving ≠ .serving ∨ (s.prc.deadlineByHold = true ∧ s.prc.healthDeadline ≠ none) →
            exec .radioSilenceExpiry s = .next silenced))) ∧
      (s.rch.up = false → exec .radioSilenceExpiry s = .next s ∧
        exec (.channelBreak .radio) s = .next { s with rch := { s.rch with receiver := .hunting } })) ∧
  (∀ (d : Nat) (s : State), OrdersLaw s → s.prc.serving = .dark → s.prc.orphanAt = some d → d ≤ s.timebase →
      ∃ t, exec .orphanTimerExpiry s = .next t ∧ t.prc = { s.prc with orphanAt := none } ∧ t.sub.attachOrder = [] ∧
        (∀ i, (t.slot i).isOpen = false) ∧ s.sub.closingOrder <+: t.sub.closingOrder ∧
        s.bsd.store <+: t.bsd.store ∧ (∀ k, .releaseSub k ∈ t.rch.queue → .releaseSub k ∈ s.rch.queue) ∧
        Touches [.prc, .sub, .hov, .bsd, .rch] s t)

/-! ## Tables (chapter 8) -/

/-- TABLE-OPEN (R152): it opens the window in place of any other, or is counted as refused; and a TABLE-DATA with no
window, from another sender, or of another length is a stray (R153, R154). -/
def Obligations.WindowsOpenAndStraysCount : Prop :=
  ∀ (n : Nat) (m : WindowMsg) (bs : List Byte) (s : State),
    let u := heardFrom n none s
    let stray := { u with tbl := { u.tbl with strayData := min (u.tbl.strayData + 1) 65535 } }
    (∀ t, tableOf m.table = some t → m.first ≤ m.last → m.last < t.rows →
      exec (.tableOpen n (some m)) s =
        .next { u with tbl := { u.tbl with window := some ⟨t, m.first, m.last, m.first, n⟩ } }) ∧
    (tableOf m.table = none ∨ m.last < m.first ∨ (∃ t, tableOf m.table = some t ∧ t.rows ≤ m.last) →
      exec (.tableOpen n (some m)) s =
        .next { u with tbl := { u.tbl with refusedOpens := min (u.tbl.refusedOpens + 1) 65535 } }) ∧
    (u.tbl.window = none → exec (.tableData n bs) s = .next stray) ∧
    (∀ w, u.tbl.window = some w → w.sender ≠ n ∨ bs.length ≠ w.table.rowLength →
      exec (.tableData n bs) s = .next stray)

/-- An accepted TABLE-DATA (R153, R156, Tables 8.3 and 12.8): the row at the pointer takes the frame's fields, clamped,
no other row moves, and the pointer goes on, from the last row to the first. The notice of the row is acted on in the
same event (R157, R158): IDENTITY with the new code at the ZONE row of the current zone (R90), nothing at another ZONE
row or a TARIFF row; at a PARTNER row the open entries on it that now fail the re-check are closed WITHDRAWN, with
RELEASE-SUB and nothing in the departure list, and the others stay as they were (R15); at the ROUTE header a leg not
below the new length is clamped, which counts as a slip (R92), and at the header and a leg row the zone, plan pair and
silence status are then those of the leg (R88, R92); at a SILENCE row the silence status is (R93); at a LINK row shore
link control evaluates its conditions (R102, R106). -/
def Obligations.TableDataWritesTheClampedRow : Prop :=
  ∀ (n : Nat) (bs : List Byte) (w : Window) (s : State),
    let u := heardFrom n none s
    let byte := fun i => (bs.getD i 0).toNat
    let two := fun i => 256 * byte i + byte (i + 1)
    let three := fun i => 65536 * byte i + two (i + 1)
    let window := some { w with pointer := if w.pointer = w.last then w.first else w.pointer + 1 }
    let len := min (byte 0) 48
    u.tbl.window = some w → w.sender = n → bs.length = w.table.rowLength →
    ∃ t, exec (.tableData n bs) s = .next t ∧
      (w.table = .zone →
        let written := { u with tbl := { u.tbl with window := window, zones := u.tbl.zones.set w.pointer (three 0) } }
        (w.pointer = u.rtk.zone → w.pointer < u.tbl.zones.length →
          t = queueRadio (.identity (three 0)) written) ∧
        (w.pointer ≠ u.rtk.zone → t = written)) ∧
      (w.table = .tariff → t = { u with tbl := { u.tbl with window := window, tariffs := (u.tbl.tariffs.set w.pointer
        ⟨two 0, max 1 (min (two 2) 1024), two 4, max 1 (min (byte 6) 60)⟩) } }) ∧
      (w.table = .partner →
        t.tbl = { u.tbl with window := window, partners := (u.tbl.partners.set w.pointer
          ⟨three 0, byte 3 % 4, bs.getD 4 0, ⟨(bs.getD 5 0).getLsbD 0, (bs.getD 5 0).getLsbD 1⟩,
            (bs.getD 5 0).getLsbD 7, three 6⟩) } ∧
        Touches [.tbl, .sub, .bsd, .rch] u t ∧
        (OrdersLaw u → ∀ i e, u.slot i = .opened e →
          let row := t.tbl.partners.getD w.pointer .zero
          let fails := e.partner = w.pointer ∧
            (row.home = 0 ∨ row.suspended = true ∨ row.zones.getLsbD u.rtk.zone = false)
          (fails → (t.slot i).isOpen = false ∧ i ∉ t.sub.attachOrder ∧
            (u.rch.queue.length + 2 * u.sub.attachOrder.length ≤ 16 → .releaseSub e.key ∈ t.rch.queue)) ∧
          (¬fails → t.slot i = .opened e ∧ i ∈ t.sub.attachOrder))) ∧
      (w.table = .route → w.pointer = 0 →
        t.tbl = { u.tbl with window := window, route := ⟨len, byte 1 % 8⟩ } ∧ RouteHeld t ∧
        (u.rtk.leg < len ∨ u.rtk.leg = 0 ∧ len = 0 → t.rtk.leg = u.rtk.leg ∧ t.rtk.slipCount = u.rtk.slipCount ∧
          t.rtk.slipUntil = u.rtk.slipUntil) ∧
        (len ≤ u.rtk.leg → u.rtk.leg ≠ 0 → t.rtk.leg = len - 1 ∧
          t.rtk.slipCount = min (u.rtk.slipCount + 1) 65535 ∧ t.rtk.slipUntil = some (u.timebase + 60000))) ∧
      (∀ j, w.table = .route → w.pointer = j + 1 →
        t.tbl = { u.tbl with window := window, legs := u.tbl.legs.set j ⟨byte 0 % 8, byte 1 % 8⟩ } ∧ RouteHeld t ∧
        t.rtk.leg = u.rtk.leg ∧ t.rtk.slipCount = u.rtk.slipCount ∧ t.rtk.slipUntil = u.rtk.slipUntil) ∧
      (w.table = .link →
        let links := u.tbl.links.set w.pointer
          ⟨if byte 0 = 0 then .terrestrial else if byte 0 = 1 then .port else .satellite,
            max 32 (byte 1), min 63 (byte 2), min 63 (byte 3), max 2 (min (byte 4) 15), 10 * byte 5⟩
        t = { evaluate { u with tbl := { u.tbl with links := links } } with
          tbl := { u.tbl with window := window, links := links } }) ∧
      (w.table = .silence →
        t.tbl = { u.tbl with window := window, silences := (u.tbl.silences.set w.pointer
          ⟨byte 0, byte 1, (bs.getD 2 0).getLsbD 0⟩) } ∧
        t.rtk = { u.rtk with silent := t.derivedSilent })

/-! ## Deck bus (chapter 9) -/

/-- The frame offered at an idle (R168, R171, R174): that of the lowest class that holds one, a BEACON with its
contents built at that moment; nothing at a listen-only station, with nothing waiting, or with a frame of the part
already on the line (this last the model's choice, log entry 6). The contents of a BEACON are those of Table 7.2 as the
state stands (R129; R21, R73, R86, R112). -/
def Obligations.FrameStartOffersTheLowestClass : Prop :=
  ∀ s : State,
    let d := s.dbi
    s.buildBeacon =
      { serving := s.prc.serving, slip := s.rtk.slipUntil.isSome, radioFault := s.radioFault
        storeHigh := decide (48 ≤ s.bsd.store.length), configFault := s.cfg.configFault, hold := s.slc.hold
        openCount := s.sub.slots.countP Slot.isOpen, leg := s.rtk.leg, voyage := s.rtk.voyage
        linkId := s.cfg.straps.linkId, phase := s.slc.phase, cover := s.prc.cover.map CoverMember.station } ∧
    (s.own = 0 ∨ d.onLine.isSome = true → exec .frameStart s = .next s) ∧
    (s.own ≠ 0 → d.onLine = none →
      (d.class1 ≠ [] → exec .frameStart s = .next { s with dbi := { d with onLine := some .class1 } }) ∧
      (d.class1 = [] → d.link.isSome = true →
        exec .frameStart s = .next { s with dbi := { d with onLine := some .link } }) ∧
      (∀ w, d.class1 = [] → d.link = none → d.beacon = some w →
        exec .frameStart s = .next { s with dbi := { d with
          onLine := some .beacon, beacon := some { w with frame := some s.buildBeacon } } }) ∧
      (d.class1 = [] → d.link = none → d.beacon = none →
        (d.bill.isSome = true → d.drainEnd = none →
          exec .frameStart s = .next { s with dbi := { d with onLine := some .bill } }) ∧
        (d.bill = none → d.drainEnd.isSome = true →
          exec .frameStart s = .next { s with dbi := { d with onLine := some .drainEnd } }) ∧
        (d.bill = none → d.drainEnd = none → d.reports ≠ [] →
          exec .frameStart s = .next { s with dbi := { d with onLine := some .report } }) ∧
        (d.bill = none → d.drainEnd = none → d.reports = [] → exec .frameStart s = .next s)))

/-- A lost arbitration (R164, R165, R170): the frame's deferral rises, saturating at 3, and it keeps its place; a LINK
waiting beside replaces the one that lost, with that deferral and its age (R168). A lost line does the same and counts a
transmit error (R166). That both change nothing with no frame on the line is the model's reading (log entry 6). -/
def Obligations.LostFrameIsDeferred : Prop :=
  ∀ s : State,
    let d := s.dbi
    (d.onLine = none → exec .arbitrationLost s = .next s ∧ exec .lineLost s = .next s) ∧
    (d.onLine.isSome = true → ∀ t, exec .arbitrationLost s = .next t →
      exec .lineLost s =
        .next { t with dbi := { t.dbi with transmitErrors := min (d.transmitErrors + 1) 65535 } }) ∧
    (∀ w rest, d.onLine = some .class1 → d.class1 = w :: rest → exec .arbitrationLost s = .next { s with dbi := { d with
      onLine := none, class1 := { w with deferral := min (w.deferral + 1) 3 } :: rest } }) ∧
    (∀ w, d.onLine = some .link → d.link = some w → exec .arbitrationLost s = .next { s with dbi := { d with
      onLine := none, linkBeside := none
      link := some ⟨(match d.linkBeside with | some b => b.frame | none => w.frame), min (w.deferral + 1) 3,
        w.entered⟩ } }) ∧
    (∀ w, d.onLine = some .beacon → d.beacon = some w → exec .arbitrationLost s = .next { s with dbi := { d with
      onLine := none, beacon := some { w with deferral := min (w.deferral + 1) 3 } } }) ∧
    (∀ w, d.onLine = some .bill → d.bill = some w → exec .arbitrationLost s = .next { s with dbi := { d with
      onLine := none, bill := some { w with deferral := min (w.deferral + 1) 3 } } }) ∧
    (∀ w, d.onLine = some .drainEnd → d.drainEnd = some w → exec .arbitrationLost s = .next { s with dbi := { d with
      onLine := none, drainEnd := some { w with deferral := min (w.deferral + 1) 3 } } }) ∧
    (∀ w rest, d.onLine = some .report → d.reports = w :: rest → exec .arbitrationLost s = .next { s with dbi := { d with
      onLine := none, reports := { w with deferral := min (w.deferral + 1) 3 } :: rest } })

/-- A frame of the part that goes out whole is on the line no more and leaves its queue place, whatever its own
reception (R48, R167, R170): a CLAIM's key leaves the pending claims and its open entry's flag is cleared; the LINK
waiting beside takes its place; the class-3 place is empty. After that its own reception, where it fails a check,
raises that check's count and reaches no block, and where it is good a LINK and a BEACON are taken as any station's
would be (R116). That FRAME_SENT changes nothing with no frame on the line is the model's reading (log entry 6); so is
that the LINK from beside keeps the age at which it was offered (log entry 27). -/
def Obligations.SentFrameLeavesItsPlace : Prop :=
  ∀ (own : Option RxCheck) (s : State),
    (s.dbi.onLine = none → exec (.frameSent own) s = .next s) ∧
    (∀ w rest key, s.dbi.onLine = some .class1 → s.dbi.class1 = w :: rest → w.frame = .claim key →
      ∃ t, exec (.frameSent own) s = .next t ∧ t.dbi.class1 = rest ∧ t.dbi.onLine = none ∧
        t.hov = { s.hov with pendingClaims := s.hov.pendingClaims.erase key } ∧
        (∀ i e, s.findOpen key = some i → s.slot i = .opened e →
          t.slot i = .opened { e with claimPending := false }) ∧
        (∀ i, s.findOpen key ≠ some i → t.slot i = s.slot i) ∧ Touches [.sub, .hov, .dbi, .tbl] s t) ∧
    (∀ w rest m, s.dbi.onLine = some .class1 → s.dbi.class1 = w :: rest → w.frame = .release m →
      ∃ t, exec (.frameSent own) s = .next t ∧ t.dbi.class1 = rest ∧ Touches [.dbi, .tbl] s t) ∧
    (s.dbi.onLine = some .report → ∃ t, exec (.frameSent own) s = .next t ∧ t.dbi.reports = s.dbi.reports.drop 1 ∧
      Touches [.dbi, .tbl] s t) ∧
    (∃ t, exec (.frameSent own) s = .next t ∧ t.dbi.onLine = none ∧
      (s.dbi.onLine = some .beacon → t.dbi.beacon = none)) ∧
    (s.dbi.onLine = some .link →
      let left := { s.dbi with onLine := none, link := s.dbi.linkBeside, linkBeside := none }
      (∀ c, exec (.frameSent (some c)) s = .next { s with dbi := countReceiveError c left }) ∧
      (∀ w, s.dbi.link = some w →
        (w.frame.announce = .carry → exec (.frameSent none) s =
          exec (.linkCarryHeard s.own w.frame.linkId w.frame.hold) { s with dbi := left }) ∧
        (w.frame.announce = .drain → exec (.frameSent none) s =
          exec (.linkDrainHeard s.own w.frame.linkId w.frame.hold) { s with dbi := left }) ∧
        (∀ failed, w.frame.announce = .down failed → exec (.frameSent none) s =
          exec (.linkDownHeard s.own w.frame.linkId w.frame.hold failed) { s with dbi := left }))) ∧
    (s.dbi.onLine = some .beacon →
      let left := { s.dbi with onLine := none, beacon := none }
      (∀ c, exec (.frameSent (some c)) s = .next { s with dbi := countReceiveError c left }) ∧
      (∀ w m, s.dbi.beacon = some w → w.frame = some m → m.serving ≠ .starting →
        exec (.frameSent none) s = exec (.beaconHeard s.own (some m)) { s with dbi := left }))

/-- Self-reception (R116, R117, R118): the part's own LINK CARRY takes the view where it is none, and its own LINK
DRAIN or DOWN, or a BEACON of its own that shows a phase other than CARRYING, clears a view that names the part. -/
def Obligations.OwnLinkFramesReachTheView : Prop :=
  ∀ s : State,
    (∀ w, s.dbi.onLine = some .link → s.dbi.link = some w →
      (w.frame.announce = .carry → s.slc.view = none →
        ∃ t, exec (.frameSent none) s = .next t ∧ t.slc.view = some ⟨s.own, w.frame.linkId⟩ ∧
          t.slc.shoreHold = w.frame.hold ∧ t.slc.gateOpen = !w.frame.hold ∧ t.slc.ratingLink = w.frame.linkId ∧
          Touches [.sub, .bsd, .slc, .tch, .dbi, .rch, .tbl] s t) ∧
      (∀ x, w.frame.announce ≠ .carry → s.slc.view = some ⟨s.own, x⟩ →
        ∃ t, exec (.frameSent none) s = .next t ∧ t.slc.view = none ∧ t.slc.gateOpen = false ∧
          Touches [.slc, .tch, .dbi, .rch, .tbl] s t)) ∧
    (∀ w m x, s.dbi.onLine = some .beacon → s.dbi.beacon = some w → w.frame = some m → m.phase ≠ .carrying →
      s.slc.view = some ⟨s.own, x⟩ →
      ∃ t, exec (.frameSent none) s = .next t ∧ t.slc.view = none ∧ t.dbi.beacon = none ∧
        Touches [.slc, .tch, .dbi, .rch, .tbl] s t)

/-- QUERY (R192): a QUERY for this station, whose number is not 0, queues a REPORT of the state, in any serving state,
or drops and counts it where two wait; any other is only heard; a short one is counted as malformed; and each ends its
sender's load window. The contents of a REPORT are those of R193, with the four counters of R194, each a sum that
saturates at 65,535 (Table 11.2), and the leg disagreement of R145. -/
def Obligations.QueryIsAnsweredByAReport : Prop :=
  (∀ s : State,
      let peers := fun st : PeerState => s.prc.roster.countP (fun p => p.state == st)
      s.buildReport =
        { serving := s.prc.serving, deadlinePassed := s.prc.healthDeadline.isNone, holdUsed := s.prc.holdUsed
          configFault := s.cfg.configFault, openCount := s.sub.slots.countP Slot.isOpen
          closingCount := s.sub.slots.countP Slot.isClosing, freeCount := s.sub.slots.countP Slot.isFree
          departures := s.hov.departures.length, storeCount := s.bsd.store.length, phase := s.slc.phase
          terminalPresent := s.cfg.straps.terminalPresent, linkId := s.cfg.straps.linkId
          linkKind := (s.tbl.links.getD s.cfg.straps.linkId .zero).kind, view := s.slc.view, leg := s.rtk.leg
          voyage := s.rtk.voyage, zone := s.rtk.zone, cover := s.prc.cover.map CoverMember.station
          unheard := peers .unheard, present := peers .present, quiet := peers .quiet, lost := peers .lost
          legDisagreement := s.prc.roster.countP (fun p => (p.state == .present || p.state == .quiet) &&
            (p.beacon.any fun b => b.leg != s.rtk.leg))
          slipCount := s.rtk.slipCount
          busErrors := min (s.dbi.lengthErrors + s.dbi.checkwordErrors + s.dbi.senderZeroErrors +
            s.dbi.unknownKindErrors + s.dbi.classErrors + s.dbi.transmitErrors + s.rtk.badMarks + s.cfg.malformed) 65535
          channelErrors := min (s.rch.errors + s.rch.overruns + s.tch.errors + s.tch.overruns + s.sub.unknownUsage +
            s.prc.refusedHolds) 65535
          drops := min (s.dbi.class1Drops + s.dbi.reportDrops + s.hov.departureDrops + s.hov.staleReleases +
            s.rch.drops + s.tch.drops) 65535
          refusedOpens := min (s.tbl.refusedOpens + s.tbl.strayData) 65535 }) ∧
  ∀ (n target : Nat) (s : State),
    let u := hear n s
    (target ≠ u.own ∨ target = 0 → exec (.query n (some target)) s = .next u) ∧
    (target = u.own → target ≠ 0 →
      (u.dbi.reports.length < 2 → exec (.query n (some target)) s = .next { u with
        dbi := { u.dbi with reports := u.dbi.reports ++ [⟨u.buildReport, 0, u.timebase⟩] } }) ∧
      (2 ≤ u.dbi.reports.length → exec (.query n (some target)) s = .next { u with
        dbi := { u.dbi with reportDrops := min (u.dbi.reportDrops + 1) 65535 } })) ∧
    exec (.query n none) s = .next { u with cfg := { u.cfg with malformed := min (u.cfg.malformed + 1) 65535 } } ∧
    (∀ w, u.tbl.window = some w → w.sender ≠ n)

/-! ## Local channels (chapter 10) -/

/-- The radio directive queue (R181): a directive joins the tail while fewer than 16 are held; else it is dropped and
counted, the queue is not changed and the radio-fault flag is set. As the sending of its last one ends, the flag is
cleared. The terminal directive queue holds 4, drops and counts in the same way, and sets no flag. Hold lines and the
mark hold (R182, R183, R186): asserted, the radio head's line starts nothing; as it is released, and as the mark hold
after a restart ends, the oldest directive is started, the radio head's line permitting; the terminal transmitter goes
on whatever its hold line says. While the radio head's hold line is asserted the radio transmitter starts no directive,
whatever command comes, but for the line's own release (R182). That DIRECTIVE_SENT changes nothing at a channel that is
sending none is the model's reading (log entry 6). -/
def Obligations.DirectivesGoOutInOrder : Prop :=
  (∀ (d : TerminalDirective) (s : State),
      (s.tch.queue.length < 4 → queueTerminal d s = { s with tch := { s.tch with
        queue := s.tch.queue ++ [d], sending := s.tch.sending || !s.tch.markHold } }) ∧
      (4 ≤ s.tch.queue.length →
        queueTerminal d s = { s with tch := { s.tch with drops := min (s.tch.drops + 1) 65535 } })) ∧
  (∀ (d : RadioDirective) (s : State),
      (s.rch.queue.length < 16 → (queueRadio d s).rch.queue = s.rch.queue ++ [d] ∧
        (queueRadio d s).rch.drops = s.rch.drops ∧ (queueRadio d s).radioFault = s.radioFault) ∧
      (16 ≤ s.rch.queue.length → (queueRadio d s).rch = { s.rch with drops := min (s.rch.drops + 1) 65535 } ∧
        (queueRadio d s).radioFault = true) ∧
      (s.rch.sending = true → ∃ t, exec (.directiveSent .radio) s = .next t ∧ t.rch.queue = s.rch.queue.drop 1 ∧
        t.radioFault = (s.radioFault && decide (1 < s.rch.queue.length)) ∧
        t.rch.sending = (!s.radioHold && !s.rch.markHold && decide (1 < s.rch.queue.length)) ∧
        t.rch.drops = s.rch.drops ∧ Touches [.rch] s t) ∧
      (s.rch.sending = false → exec (.directiveSent .radio) s = .next s)) ∧
  (∀ s : State,
      exec .radioHoldLineAsserted s = .next { s with radioHold := true } ∧
      exec .radioHoldLineReleased s = .next { s with
        radioHold := false
        rch := { s.rch with sending := s.rch.sending || (!s.rch.markHold && !s.rch.queue.isEmpty) } } ∧
      exec (.markHoldAfterRestartEnd .radio) s = .next { s with rch := { s.rch with
        markHold := false, sending := s.rch.sending || (!s.radioHold && !s.rch.queue.isEmpty) } } ∧
      exec (.markHoldAfterRestartEnd .terminal) s = .next { s with tch := { s.tch with
        markHold := false, sending := s.tch.sending || !s.tch.queue.isEmpty } } ∧
      (s.tch.sending = true → exec (.directiveSent .terminal) s = .next { s with tch := { s.tch with
        queue := s.tch.queue.drop 1, sending := !s.tch.markHold && decide (1 < s.tch.queue.length) } }) ∧
      (s.tch.sending = false → exec (.directiveSent .terminal) s = .next s)) ∧
  (∀ (c : Instr) (s t : State), exec c s = .next t → s.radioHold = true → c ≠ .radioHoldLineReleased →
      t.rch.sending = true → s.rch.sending = true)

/-! ## Bits (chapter 12) -/

/-- A frame built by R160 and R161, of any kind and any payload of at most 32 bytes, is read back by the receiver of
R162 as an accepted frame of that sender, kind and payload. The payloads of CLAIM, RELEASE, LINK and BEACON, which
another 5408 acts on (Tables 12.4 and 12.5), read back as what they were built from. -/
def Obligations.FramesAndPayloadsReadBack : Prop :=
  (∀ (kind : Kind) (deferral sender own : Nat) (board : Board) (payload : List Byte),
      deferral ≤ 3 → 1 ≤ sender → sender ≤ 31 → payload.length ≤ 32 →
      decodeFrame own board (frameBytes kind deferral sender payload) = frameCommand own board sender kind payload) ∧
  (∀ (own n : Nat) (board : Board),
      (∀ key, key < 2 ^ 40 → frameCommand own board n .claim (bytesOf 5 key) = .claimHeard n (some key)) ∧
      (∀ m : ReleaseMsg, m.wf = true → frameCommand own board n .release (releaseBytes m) = .releaseHeard n (some m)) ∧
      (∀ m : BeaconMsg, m.wf = true → frameCommand own board n .beacon (beaconBytes m) = .beaconHeard n (some m)) ∧
      (∀ link hold, link < 8 →
        frameCommand own board n .link (linkBytes ⟨link, hold, .carry⟩) = .linkCarryHeard n link hold ∧
        frameCommand own board n .link (linkBytes ⟨link, hold, .drain⟩) = .linkDrainHeard n link hold ∧
        ∀ failed, frameCommand own board n .link (linkBytes ⟨link, hold, .down failed⟩) =
          .linkDownHeard n link hold failed))

/-- A character (R175): a start bit at space, eight data bits with the least significant first, an even parity bit
where parity is on, one or two stop bits at mark, 10 to 12 bit times in all; it is read back as its byte, with a parity
error where its parity bit is the other, and with a framing error where its first stop bit is at space (R176). A
message framed by R175, of any type and a payload of at most 16 bytes, fed to a hunting receiver one character at a
time, gives one good message of that type and payload at its last character, and none before (R176). A character in
error and a gap end the message in progress, a parity error where parity is on (R176). -/
def Obligations.ChannelFramesAreReceived : Prop :=
  (∀ (m : CharMode) (b : Byte),
      let data := [b.getLsbD 0, b.getLsbD 1, b.getLsbD 2, b.getLsbD 3, b.getLsbD 4, b.getLsbD 5, b.getLsbD 6, b.getLsbD 7]
      let parity := data.count true % 2 == 1
      let stop := if m.parity then 10 else 9
      m.levels b = false :: data ++ (if m.parity then [parity] else []) ++
        (if m.twoStopBits then [true, true] else [true]) ∧
      m.bitTimes = (m.levels b).length ∧ 10 ≤ m.bitTimes ∧ m.bitTimes ≤ 12 ∧
      m.read (m.levels b) = .char b ∧ (m.parity = true → m.read ((m.levels b).set 9 (!parity)) = .badParity) ∧
      m.read ((m.levels b).set stop false) = .badFraming) ∧
  (∀ (m : CharMode) (type : Nat) (payload : List Byte), type < 256 → payload.length ≤ 16 →
      (channelFrame type payload).foldl
        (fun (p : Receiver × List RxEvent) b =>
          let r := receive m p.1 (.char b)
          (r.1, p.2 ++ r.2.toList)) (.hunting, []) = (.hunting, [.good type payload])) ∧
  (∀ (m : CharMode) (bs : List Byte),
      receive m (.taking bs) .badFraming = (.hunting, some (.bad .framing)) ∧
      receive m (.taking bs) .gap = (.hunting, some (.bad .gap)) ∧
      (m.parity = true → receive m (.taking bs) .badParity = (.hunting, some (.bad .parity))))

/-! ## What every step keeps -/

/-- The laws that hold right after power-on (R190), at the reset state of the model (log entry 1 for its straps). -/
def Obligations.ResetKeepsEveryLaw : Prop :=
  let s := State.reset
  OrdersLaw s ∧ KeysLaw s ∧ CapLaw s ∧ ClaimsLaw s ∧ DeparturesLaw s ∧ PartnerLaw s ∧ ServingLaw s ∧ TimersLaw s ∧
    ListenOnlyLaw s ∧ PlacesLaw s ∧ DeferralLaw s ∧ ClosingLaw s ∧ LegLaw s ∧ RouteHeld s ∧ GateLaw s ∧ PhaseLaw s ∧
    DrainLaw s ∧ RosterLaw s ∧ CoverLaw s

/-- The two orders of the subscriber table hold each open and each CLOSING slot once, of 96 slots, and no key is open
twice (R5). K never exceeds its ceiling, and an entry is BARRED exactly when C is not 0 and K equals C (R40). -/
def Obligations.StepKeepsTheTableAndTheCap : Prop :=
  (∀ s t : State, OrdersLaw s ∧ KeysLaw s → step s = .next t → OrdersLaw t ∧ KeysLaw t) ∧
  (∀ s t : State, OrdersLaw s ∧ CapLaw s → step s = .next t → CapLaw t)

/-- The pending claims are the CLAIMs waiting in class 1, and the flag of an open entry says whether its key is among
them (R47 to R49). A key is never both open and in the departure list, which holds at most 32 keys, none twice (R59,
R61). -/
def Obligations.StepKeepsTheClaimsAndTheDepartures : Prop :=
  (∀ s t : State, OrdersLaw s ∧ KeysLaw s ∧ ClaimsLaw s → step s = .next t → ClaimsLaw t) ∧
  (∀ s t : State, OrdersLaw s ∧ KeysLaw s ∧ DeparturesLaw s → step s = .next t → DeparturesLaw t)

/-- Every open entry's partner row is not empty, not suspended, and permits the current zone (R89). -/
def Obligations.StepKeepsPartnersInTheirZones : Prop :=
  ∀ s t : State, OrdersLaw s ∧ PartnerLaw s → step s = .next t → PartnerLaw t

/-- No entry is open while STARTING or DORMANT, the cover set is empty outside SERVING, and each timer of the serving
states runs only in its own (R21, R95, R125, R136, R141). A listen-only station queues no frame and stays STARTING
(R128, R174). -/
def Obligations.StepKeepsTheServingStates : Prop :=
  (∀ s t : State, OrdersLaw s ∧ ServingLaw s ∧ TimersLaw s → step s = .next t → ServingLaw t ∧ TimersLaw t) ∧
  (∀ s t : State, ListenOnlyLaw s → step s = .next t → ListenOnlyLaw t)

/-- The store and every queue stay within their places, a deferral within 0..3, and CLOSING slots wait only while the
store is full (R17, R19, R68, R165, R169, R172, R181). A pending BILL carries the head of the store, in a drain that
runs, and never waits with a DRAIN-END (R75, R77). -/
def Obligations.StepKeepsThePlacesAndTheDrain : Prop :=
  (∀ s t : State, PlacesLaw s ∧ DeferralLaw s ∧ ClosingLaw s → step s = .next t →
      PlacesLaw t ∧ DeferralLaw t ∧ ClosingLaw t) ∧
  (∀ s t : State, DrainLaw s → step s = .next t → DrainLaw t)

/-- The leg is below L, or 0 with no route, and the zone, the plan pair and the silence status held are those that the
leg and the tables imply (R82, R83, R93). -/
def Obligations.StepKeepsTheRoute : Prop :=
  ∀ s t : State, LegLaw s ∧ RouteHeld s → step s = .next t → LegLaw t ∧ RouteHeld t

/-- The data gate is open exactly when a carrier is known and the shore hold is clear (R119, R121). The backhaul phase
is past SETTLING only with the terminal channel UP, is marked activated in just the activated phases, and each of its
timers runs in just its phase (R100, R107, R111, Table 6.1). -/
def Obligations.StepKeepsTheGateAndThePhase : Prop :=
  (∀ s t : State, GateLaw s → step s = .next t → GateLaw t) ∧
  (∀ s t : State, PhaseLaw s → step s = .next t → PhaseLaw t)

/-- A SERVING station holds every failed neighbour in its cover set, and only neighbours that are failed or whose
return hold runs (R133, R134). -/
def Obligations.StepKeepsTheCover : Prop :=
  ∀ s t : State, RosterLaw s ∧ CoverLaw s → step s = .next t → RosterLaw t ∧ CoverLaw t
end

