-- ==== Sys2Proof/Laws/State.lean ====
section
/-! SUPPORT. One lemma for each field of State after each elementary update, so that no later proof unfolds a record
update. Every one is true by `rfl`. -/

-- One theorem after another: all at once take more threads than the check's memory holds.
set_option Elab.async false

namespace Sys2Proof.Machine

/-! ### State.setSlot -/

@[simp] theorem State.setSlot_pending (i : Nat) (x : Slot) (s : State) : (s.setSlot i x).pending = s.pending := rfl
@[simp] theorem State.setSlot_timebase (i : Nat) (x : Slot) (s : State) : (s.setSlot i x).timebase = s.timebase := rfl
@[simp] theorem State.setSlot_radioHold (i : Nat) (x : Slot) (s : State) :
    (s.setSlot i x).radioHold = s.radioHold := rfl
@[simp] theorem State.setSlot_terminalHold (i : Nat) (x : Slot) (s : State) :
    (s.setSlot i x).terminalHold = s.terminalHold := rfl
@[simp] theorem State.setSlot_sub (i : Nat) (x : Slot) (s : State) :
    (s.setSlot i x).sub = { s.sub with slots := s.sub.slots.set i x } := rfl
@[simp] theorem State.setSlot_hov (i : Nat) (x : Slot) (s : State) : (s.setSlot i x).hov = s.hov := rfl
@[simp] theorem State.setSlot_bsd (i : Nat) (x : Slot) (s : State) : (s.setSlot i x).bsd = s.bsd := rfl
@[simp] theorem State.setSlot_rtk (i : Nat) (x : Slot) (s : State) : (s.setSlot i x).rtk = s.rtk := rfl
@[simp] theorem State.setSlot_slc (i : Nat) (x : Slot) (s : State) : (s.setSlot i x).slc = s.slc := rfl
@[simp] theorem State.setSlot_prc (i : Nat) (x : Slot) (s : State) : (s.setSlot i x).prc = s.prc := rfl
@[simp] theorem State.setSlot_tbl (i : Nat) (x : Slot) (s : State) : (s.setSlot i x).tbl = s.tbl := rfl
@[simp] theorem State.setSlot_dbi (i : Nat) (x : Slot) (s : State) : (s.setSlot i x).dbi = s.dbi := rfl
@[simp] theorem State.setSlot_rch (i : Nat) (x : Slot) (s : State) : (s.setSlot i x).rch = s.rch := rfl
@[simp] theorem State.setSlot_radioFault (i : Nat) (x : Slot) (s : State) :
    (s.setSlot i x).radioFault = s.radioFault := rfl
@[simp] theorem State.setSlot_tch (i : Nat) (x : Slot) (s : State) : (s.setSlot i x).tch = s.tch := rfl
@[simp] theorem State.setSlot_cfg (i : Nat) (x : Slot) (s : State) : (s.setSlot i x).cfg = s.cfg := rfl

/-! ### queueRadio -/

@[simp] theorem queueRadio_pending (d : RadioDirective) (s : State) : (queueRadio d s).pending = s.pending := rfl
@[simp] theorem queueRadio_timebase (d : RadioDirective) (s : State) : (queueRadio d s).timebase = s.timebase := rfl
@[simp] theorem queueRadio_radioHold (d : RadioDirective) (s : State) :
    (queueRadio d s).radioHold = s.radioHold := rfl
@[simp] theorem queueRadio_terminalHold (d : RadioDirective) (s : State) :
    (queueRadio d s).terminalHold = s.terminalHold := rfl
@[simp] theorem queueRadio_sub (d : RadioDirective) (s : State) : (queueRadio d s).sub = s.sub := rfl
@[simp] theorem queueRadio_hov (d : RadioDirective) (s : State) : (queueRadio d s).hov = s.hov := rfl
@[simp] theorem queueRadio_bsd (d : RadioDirective) (s : State) : (queueRadio d s).bsd = s.bsd := rfl
@[simp] theorem queueRadio_rtk (d : RadioDirective) (s : State) : (queueRadio d s).rtk = s.rtk := rfl
@[simp] theorem queueRadio_slc (d : RadioDirective) (s : State) : (queueRadio d s).slc = s.slc := rfl
@[simp] theorem queueRadio_prc (d : RadioDirective) (s : State) : (queueRadio d s).prc = s.prc := rfl
@[simp] theorem queueRadio_tbl (d : RadioDirective) (s : State) : (queueRadio d s).tbl = s.tbl := rfl
@[simp] theorem queueRadio_dbi (d : RadioDirective) (s : State) : (queueRadio d s).dbi = s.dbi := rfl
@[simp] theorem queueRadio_rch (d : RadioDirective) (s : State) :
    (queueRadio d s).rch = s.rch.enqueue Config.radioPlaces s.radioGate d := rfl
@[simp] theorem queueRadio_radioFault (d : RadioDirective) (s : State) :
    (queueRadio d s).radioFault = (s.radioFault || decide (Config.radioPlaces ≤ s.rch.queue.length)) := rfl
@[simp] theorem queueRadio_tch (d : RadioDirective) (s : State) : (queueRadio d s).tch = s.tch := rfl
@[simp] theorem queueRadio_cfg (d : RadioDirective) (s : State) : (queueRadio d s).cfg = s.cfg := rfl

/-! ### queueTerminal -/

@[simp] theorem queueTerminal_pending (d : TerminalDirective) (s : State) :
    (queueTerminal d s).pending = s.pending := rfl
@[simp] theorem queueTerminal_timebase (d : TerminalDirective) (s : State) :
    (queueTerminal d s).timebase = s.timebase := rfl
@[simp] theorem queueTerminal_radioHold (d : TerminalDirective) (s : State) :
    (queueTerminal d s).radioHold = s.radioHold := rfl
@[simp] theorem queueTerminal_terminalHold (d : TerminalDirective) (s : State) :
    (queueTerminal d s).terminalHold = s.terminalHold := rfl
@[simp] theorem queueTerminal_sub (d : TerminalDirective) (s : State) : (queueTerminal d s).sub = s.sub := rfl
@[simp] theorem queueTerminal_hov (d : TerminalDirective) (s : State) : (queueTerminal d s).hov = s.hov := rfl
@[simp] theorem queueTerminal_bsd (d : TerminalDirective) (s : State) : (queueTerminal d s).bsd = s.bsd := rfl
@[simp] theorem queueTerminal_rtk (d : TerminalDirective) (s : State) : (queueTerminal d s).rtk = s.rtk := rfl
@[simp] theorem queueTerminal_slc (d : TerminalDirective) (s : State) : (queueTerminal d s).slc = s.slc := rfl
@[simp] theorem queueTerminal_prc (d : TerminalDirective) (s : State) : (queueTerminal d s).prc = s.prc := rfl
@[simp] theorem queueTerminal_tbl (d : TerminalDirective) (s : State) : (queueTerminal d s).tbl = s.tbl := rfl
@[simp] theorem queueTerminal_dbi (d : TerminalDirective) (s : State) : (queueTerminal d s).dbi = s.dbi := rfl
@[simp] theorem queueTerminal_rch (d : TerminalDirective) (s : State) : (queueTerminal d s).rch = s.rch := rfl
@[simp] theorem queueTerminal_radioFault (d : TerminalDirective) (s : State) :
    (queueTerminal d s).radioFault = s.radioFault := rfl
@[simp] theorem queueTerminal_tch (d : TerminalDirective) (s : State) :
    (queueTerminal d s).tch = s.tch.enqueue Config.terminalPlaces s.terminalGate d := rfl
@[simp] theorem queueTerminal_cfg (d : TerminalDirective) (s : State) : (queueTerminal d s).cfg = s.cfg := rfl

/-! ### countClass1Drop -/

@[simp] theorem countClass1Drop_pending (s : State) : (countClass1Drop s).pending = s.pending := rfl
@[simp] theorem countClass1Drop_timebase (s : State) : (countClass1Drop s).timebase = s.timebase := rfl
@[simp] theorem countClass1Drop_radioHold (s : State) : (countClass1Drop s).radioHold = s.radioHold := rfl
@[simp] theorem countClass1Drop_terminalHold (s : State) : (countClass1Drop s).terminalHold = s.terminalHold := rfl
@[simp] theorem countClass1Drop_sub (s : State) : (countClass1Drop s).sub = s.sub := rfl
@[simp] theorem countClass1Drop_hov (s : State) : (countClass1Drop s).hov = s.hov := rfl
@[simp] theorem countClass1Drop_bsd (s : State) : (countClass1Drop s).bsd = s.bsd := rfl
@[simp] theorem countClass1Drop_rtk (s : State) : (countClass1Drop s).rtk = s.rtk := rfl
@[simp] theorem countClass1Drop_slc (s : State) : (countClass1Drop s).slc = s.slc := rfl
@[simp] theorem countClass1Drop_prc (s : State) : (countClass1Drop s).prc = s.prc := rfl
@[simp] theorem countClass1Drop_tbl (s : State) : (countClass1Drop s).tbl = s.tbl := rfl
@[simp] theorem countClass1Drop_dbi (s : State) :
    (countClass1Drop s).dbi = { s.dbi with class1Drops := satInc Config.maxCount s.dbi.class1Drops } := rfl
@[simp] theorem countClass1Drop_rch (s : State) : (countClass1Drop s).rch = s.rch := rfl
@[simp] theorem countClass1Drop_radioFault (s : State) : (countClass1Drop s).radioFault = s.radioFault := rfl
@[simp] theorem countClass1Drop_tch (s : State) : (countClass1Drop s).tch = s.tch := rfl
@[simp] theorem countClass1Drop_cfg (s : State) : (countClass1Drop s).cfg = s.cfg := rfl

/-! ### countMalformed -/

@[simp] theorem countMalformed_pending (s : State) : (countMalformed s).pending = s.pending := rfl
@[simp] theorem countMalformed_timebase (s : State) : (countMalformed s).timebase = s.timebase := rfl
@[simp] theorem countMalformed_radioHold (s : State) : (countMalformed s).radioHold = s.radioHold := rfl
@[simp] theorem countMalformed_terminalHold (s : State) : (countMalformed s).terminalHold = s.terminalHold := rfl
@[simp] theorem countMalformed_sub (s : State) : (countMalformed s).sub = s.sub := rfl
@[simp] theorem countMalformed_hov (s : State) : (countMalformed s).hov = s.hov := rfl
@[simp] theorem countMalformed_bsd (s : State) : (countMalformed s).bsd = s.bsd := rfl
@[simp] theorem countMalformed_rtk (s : State) : (countMalformed s).rtk = s.rtk := rfl
@[simp] theorem countMalformed_slc (s : State) : (countMalformed s).slc = s.slc := rfl
@[simp] theorem countMalformed_prc (s : State) : (countMalformed s).prc = s.prc := rfl
@[simp] theorem countMalformed_tbl (s : State) : (countMalformed s).tbl = s.tbl := rfl
@[simp] theorem countMalformed_dbi (s : State) : (countMalformed s).dbi = s.dbi := rfl
@[simp] theorem countMalformed_rch (s : State) : (countMalformed s).rch = s.rch := rfl
@[simp] theorem countMalformed_radioFault (s : State) : (countMalformed s).radioFault = s.radioFault := rfl
@[simp] theorem countMalformed_tch (s : State) : (countMalformed s).tch = s.tch := rfl
@[simp] theorem countMalformed_cfg (s : State) :
    (countMalformed s).cfg = { s.cfg with malformed := satInc Config.maxCount s.cfg.malformed } := rfl

/-! ### storeRecord -/

@[simp] theorem storeRecord_pending (r : Record) (s : State) : (storeRecord r s).pending = s.pending := rfl
@[simp] theorem storeRecord_timebase (r : Record) (s : State) : (storeRecord r s).timebase = s.timebase := rfl
@[simp] theorem storeRecord_radioHold (r : Record) (s : State) : (storeRecord r s).radioHold = s.radioHold := rfl
@[simp] theorem storeRecord_terminalHold (r : Record) (s : State) :
    (storeRecord r s).terminalHold = s.terminalHold := rfl
@[simp] theorem storeRecord_sub (r : Record) (s : State) : (storeRecord r s).sub = s.sub := rfl
@[simp] theorem storeRecord_hov (r : Record) (s : State) : (storeRecord r s).hov = s.hov := rfl
@[simp] theorem storeRecord_bsd (r : Record) (s : State) :
    (storeRecord r s).bsd = { s.bsd with
      store := s.bsd.store ++ [⟨s.bsd.nextSequence, r⟩]
      nextSequence := wrapInc Config.maxCount s.bsd.nextSequence } := rfl
@[simp] theorem storeRecord_rtk (r : Record) (s : State) : (storeRecord r s).rtk = s.rtk := rfl
@[simp] theorem storeRecord_slc (r : Record) (s : State) : (storeRecord r s).slc = s.slc := rfl
@[simp] theorem storeRecord_prc (r : Record) (s : State) : (storeRecord r s).prc = s.prc := rfl
@[simp] theorem storeRecord_tbl (r : Record) (s : State) : (storeRecord r s).tbl = s.tbl := rfl
@[simp] theorem storeRecord_dbi (r : Record) (s : State) : (storeRecord r s).dbi = s.dbi := rfl
@[simp] theorem storeRecord_rch (r : Record) (s : State) : (storeRecord r s).rch = s.rch := rfl
@[simp] theorem storeRecord_radioFault (r : Record) (s : State) : (storeRecord r s).radioFault = s.radioFault := rfl
@[simp] theorem storeRecord_tch (r : Record) (s : State) : (storeRecord r s).tch = s.tch := rfl
@[simp] theorem storeRecord_cfg (r : Record) (s : State) : (storeRecord r s).cfg = s.cfg := rfl

/-! ### departureJoin -/

@[simp] theorem departureJoin_pending (e : Entry) (s : State) : (departureJoin e s).pending = s.pending := rfl
@[simp] theorem departureJoin_timebase (e : Entry) (s : State) : (departureJoin e s).timebase = s.timebase := rfl
@[simp] theorem departureJoin_radioHold (e : Entry) (s : State) : (departureJoin e s).radioHold = s.radioHold := rfl
@[simp] theorem departureJoin_terminalHold (e : Entry) (s : State) :
    (departureJoin e s).terminalHold = s.terminalHold := rfl
@[simp] theorem departureJoin_sub (e : Entry) (s : State) : (departureJoin e s).sub = s.sub := rfl
@[simp] theorem departureJoin_bsd (e : Entry) (s : State) : (departureJoin e s).bsd = s.bsd := rfl
@[simp] theorem departureJoin_rtk (e : Entry) (s : State) : (departureJoin e s).rtk = s.rtk := rfl
@[simp] theorem departureJoin_slc (e : Entry) (s : State) : (departureJoin e s).slc = s.slc := rfl
@[simp] theorem departureJoin_prc (e : Entry) (s : State) : (departureJoin e s).prc = s.prc := rfl
@[simp] theorem departureJoin_tbl (e : Entry) (s : State) : (departureJoin e s).tbl = s.tbl := rfl
@[simp] theorem departureJoin_dbi (e : Entry) (s : State) : (departureJoin e s).dbi = s.dbi := rfl
@[simp] theorem departureJoin_rch (e : Entry) (s : State) : (departureJoin e s).rch = s.rch := rfl
@[simp] theorem departureJoin_radioFault (e : Entry) (s : State) :
    (departureJoin e s).radioFault = s.radioFault := rfl
@[simp] theorem departureJoin_tch (e : Entry) (s : State) : (departureJoin e s).tch = s.tch := rfl
@[simp] theorem departureJoin_cfg (e : Entry) (s : State) : (departureJoin e s).cfg = s.cfg := rfl

/-! ### forgetDeparture -/

@[simp] theorem forgetDeparture_pending (key : Nat) (s : State) : (forgetDeparture key s).pending = s.pending := rfl
@[simp] theorem forgetDeparture_timebase (key : Nat) (s : State) :
    (forgetDeparture key s).timebase = s.timebase := rfl
@[simp] theorem forgetDeparture_radioHold (key : Nat) (s : State) :
    (forgetDeparture key s).radioHold = s.radioHold := rfl
@[simp] theorem forgetDeparture_terminalHold (key : Nat) (s : State) :
    (forgetDeparture key s).terminalHold = s.terminalHold := rfl
@[simp] theorem forgetDeparture_sub (key : Nat) (s : State) : (forgetDeparture key s).sub = s.sub := rfl
@[simp] theorem forgetDeparture_hov (key : Nat) (s : State) :
    (forgetDeparture key s).hov = { s.hov with departures := s.hov.departures.filter (fun d => d.key != key) } := rfl
@[simp] theorem forgetDeparture_bsd (key : Nat) (s : State) : (forgetDeparture key s).bsd = s.bsd := rfl
@[simp] theorem forgetDeparture_rtk (key : Nat) (s : State) : (forgetDeparture key s).rtk = s.rtk := rfl
@[simp] theorem forgetDeparture_slc (key : Nat) (s : State) : (forgetDeparture key s).slc = s.slc := rfl
@[simp] theorem forgetDeparture_prc (key : Nat) (s : State) : (forgetDeparture key s).prc = s.prc := rfl
@[simp] theorem forgetDeparture_tbl (key : Nat) (s : State) : (forgetDeparture key s).tbl = s.tbl := rfl
@[simp] theorem forgetDeparture_dbi (key : Nat) (s : State) : (forgetDeparture key s).dbi = s.dbi := rfl
@[simp] theorem forgetDeparture_rch (key : Nat) (s : State) : (forgetDeparture key s).rch = s.rch := rfl
@[simp] theorem forgetDeparture_radioFault (key : Nat) (s : State) :
    (forgetDeparture key s).radioFault = s.radioFault := rfl
@[simp] theorem forgetDeparture_tch (key : Nat) (s : State) : (forgetDeparture key s).tch = s.tch := rfl
@[simp] theorem forgetDeparture_cfg (key : Nat) (s : State) : (forgetDeparture key s).cfg = s.cfg := rfl

/-! ### setActivated -/

@[simp] theorem setActivated_pending (b : Bool) (s : State) : (setActivated b s).pending = s.pending := rfl
@[simp] theorem setActivated_timebase (b : Bool) (s : State) : (setActivated b s).timebase = s.timebase := rfl
@[simp] theorem setActivated_radioHold (b : Bool) (s : State) : (setActivated b s).radioHold = s.radioHold := rfl
@[simp] theorem setActivated_terminalHold (b : Bool) (s : State) :
    (setActivated b s).terminalHold = s.terminalHold := rfl
@[simp] theorem setActivated_sub (b : Bool) (s : State) : (setActivated b s).sub = s.sub := rfl
@[simp] theorem setActivated_hov (b : Bool) (s : State) : (setActivated b s).hov = s.hov := rfl
@[simp] theorem setActivated_bsd (b : Bool) (s : State) : (setActivated b s).bsd = s.bsd := rfl
@[simp] theorem setActivated_rtk (b : Bool) (s : State) : (setActivated b s).rtk = s.rtk := rfl
@[simp] theorem setActivated_slc (b : Bool) (s : State) :
    (setActivated b s).slc = { s.slc with activated := b } := rfl
@[simp] theorem setActivated_prc (b : Bool) (s : State) : (setActivated b s).prc = s.prc := rfl
@[simp] theorem setActivated_tbl (b : Bool) (s : State) : (setActivated b s).tbl = s.tbl := rfl
@[simp] theorem setActivated_dbi (b : Bool) (s : State) : (setActivated b s).dbi = s.dbi := rfl
@[simp] theorem setActivated_rch (b : Bool) (s : State) : (setActivated b s).rch = s.rch := rfl
@[simp] theorem setActivated_radioFault (b : Bool) (s : State) : (setActivated b s).radioFault = s.radioFault := rfl
@[simp] theorem setActivated_tch (b : Bool) (s : State) : (setActivated b s).tch = s.tch := rfl
@[simp] theorem setActivated_cfg (b : Bool) (s : State) : (setActivated b s).cfg = s.cfg := rfl

/-! ### deactivate -/

@[simp] theorem deactivate_pending (s : State) : (deactivate s).pending = s.pending := rfl
@[simp] theorem deactivate_timebase (s : State) : (deactivate s).timebase = s.timebase := rfl
@[simp] theorem deactivate_radioHold (s : State) : (deactivate s).radioHold = s.radioHold := rfl
@[simp] theorem deactivate_terminalHold (s : State) : (deactivate s).terminalHold = s.terminalHold := rfl
@[simp] theorem deactivate_sub (s : State) : (deactivate s).sub = s.sub := rfl
@[simp] theorem deactivate_hov (s : State) : (deactivate s).hov = s.hov := rfl
@[simp] theorem deactivate_bsd (s : State) : (deactivate s).bsd = s.bsd := rfl
@[simp] theorem deactivate_rtk (s : State) : (deactivate s).rtk = s.rtk := rfl
@[simp] theorem deactivate_slc (s : State) : (deactivate s).slc = { s.slc with activated := false } := rfl
@[simp] theorem deactivate_prc (s : State) : (deactivate s).prc = s.prc := rfl
@[simp] theorem deactivate_tbl (s : State) : (deactivate s).tbl = s.tbl := rfl
@[simp] theorem deactivate_dbi (s : State) : (deactivate s).dbi = s.dbi := rfl
@[simp] theorem deactivate_rch (s : State) : (deactivate s).rch = s.rch := rfl
@[simp] theorem deactivate_radioFault (s : State) : (deactivate s).radioFault = s.radioFault := rfl
@[simp] theorem deactivate_tch (s : State) :
    (deactivate s).tch = s.tch.enqueue Config.terminalPlaces s.terminalGate .deactivate := rfl
@[simp] theorem deactivate_cfg (s : State) : (deactivate s).cfg = s.cfg := rfl

/-! ### takeShoreHold -/

@[simp] theorem takeShoreHold_pending (hold : Bool) (s : State) : (takeShoreHold hold s).pending = s.pending := rfl
@[simp] theorem takeShoreHold_timebase (hold : Bool) (s : State) : (takeShoreHold hold s).timebase = s.timebase := rfl
@[simp] theorem takeShoreHold_radioHold (hold : Bool) (s : State) :
    (takeShoreHold hold s).radioHold = s.radioHold := rfl
@[simp] theorem takeShoreHold_terminalHold (hold : Bool) (s : State) :
    (takeShoreHold hold s).terminalHold = s.terminalHold := rfl
@[simp] theorem takeShoreHold_sub (hold : Bool) (s : State) : (takeShoreHold hold s).sub = s.sub := rfl
@[simp] theorem takeShoreHold_hov (hold : Bool) (s : State) : (takeShoreHold hold s).hov = s.hov := rfl
@[simp] theorem takeShoreHold_bsd (hold : Bool) (s : State) : (takeShoreHold hold s).bsd = s.bsd := rfl
@[simp] theorem takeShoreHold_rtk (hold : Bool) (s : State) : (takeShoreHold hold s).rtk = s.rtk := rfl
@[simp] theorem takeShoreHold_slc (hold : Bool) (s : State) :
    (takeShoreHold hold s).slc = { s.slc with shoreHold := hold } := rfl
@[simp] theorem takeShoreHold_prc (hold : Bool) (s : State) : (takeShoreHold hold s).prc = s.prc := rfl
@[simp] theorem takeShoreHold_tbl (hold : Bool) (s : State) : (takeShoreHold hold s).tbl = s.tbl := rfl
@[simp] theorem takeShoreHold_dbi (hold : Bool) (s : State) : (takeShoreHold hold s).dbi = s.dbi := rfl
@[simp] theorem takeShoreHold_rch (hold : Bool) (s : State) : (takeShoreHold hold s).rch = s.rch := rfl
@[simp] theorem takeShoreHold_radioFault (hold : Bool) (s : State) :
    (takeShoreHold hold s).radioFault = s.radioFault := rfl
@[simp] theorem takeShoreHold_tch (hold : Bool) (s : State) : (takeShoreHold hold s).tch = s.tch := rfl
@[simp] theorem takeShoreHold_cfg (hold : Bool) (s : State) : (takeShoreHold hold s).cfg = s.cfg := rfl

/-! ### addCover -/

@[simp] theorem addCover_pending (p : Nat) (s : State) : (addCover p s).pending = s.pending := rfl
@[simp] theorem addCover_timebase (p : Nat) (s : State) : (addCover p s).timebase = s.timebase := rfl
@[simp] theorem addCover_radioHold (p : Nat) (s : State) : (addCover p s).radioHold = s.radioHold := rfl
@[simp] theorem addCover_terminalHold (p : Nat) (s : State) : (addCover p s).terminalHold = s.terminalHold := rfl
@[simp] theorem addCover_sub (p : Nat) (s : State) : (addCover p s).sub = s.sub := rfl
@[simp] theorem addCover_hov (p : Nat) (s : State) : (addCover p s).hov = s.hov := rfl
@[simp] theorem addCover_bsd (p : Nat) (s : State) : (addCover p s).bsd = s.bsd := rfl
@[simp] theorem addCover_rtk (p : Nat) (s : State) : (addCover p s).rtk = s.rtk := rfl
@[simp] theorem addCover_slc (p : Nat) (s : State) : (addCover p s).slc = s.slc := rfl
@[simp] theorem addCover_prc (p : Nat) (s : State) :
    (addCover p s).prc = { s.prc with cover := s.prc.cover ++ [⟨p, none⟩] } := rfl
@[simp] theorem addCover_tbl (p : Nat) (s : State) : (addCover p s).tbl = s.tbl := rfl
@[simp] theorem addCover_dbi (p : Nat) (s : State) : (addCover p s).dbi = s.dbi := rfl
@[simp] theorem addCover_rch (p : Nat) (s : State) :
    (addCover p s).rch = s.rch.enqueue Config.radioPlaces s.radioGate (.cover p true) := rfl
@[simp] theorem addCover_tch (p : Nat) (s : State) : (addCover p s).tch = s.tch := rfl
@[simp] theorem addCover_cfg (p : Nat) (s : State) : (addCover p s).cfg = s.cfg := rfl

/-! ### removeCover -/

@[simp] theorem removeCover_pending (p : Nat) (s : State) : (removeCover p s).pending = s.pending := rfl
@[simp] theorem removeCover_timebase (p : Nat) (s : State) : (removeCover p s).timebase = s.timebase := rfl
@[simp] theorem removeCover_radioHold (p : Nat) (s : State) : (removeCover p s).radioHold = s.radioHold := rfl
@[simp] theorem removeCover_terminalHold (p : Nat) (s : State) :
    (removeCover p s).terminalHold = s.terminalHold := rfl
@[simp] theorem removeCover_sub (p : Nat) (s : State) : (removeCover p s).sub = s.sub := rfl
@[simp] theorem removeCover_hov (p : Nat) (s : State) : (removeCover p s).hov = s.hov := rfl
@[simp] theorem removeCover_bsd (p : Nat) (s : State) : (removeCover p s).bsd = s.bsd := rfl
@[simp] theorem removeCover_rtk (p : Nat) (s : State) : (removeCover p s).rtk = s.rtk := rfl
@[simp] theorem removeCover_slc (p : Nat) (s : State) : (removeCover p s).slc = s.slc := rfl
@[simp] theorem removeCover_prc (p : Nat) (s : State) :
    (removeCover p s).prc = { s.prc with cover := s.prc.cover.filter (fun m => m.station != p) } := rfl
@[simp] theorem removeCover_tbl (p : Nat) (s : State) : (removeCover p s).tbl = s.tbl := rfl
@[simp] theorem removeCover_dbi (p : Nat) (s : State) : (removeCover p s).dbi = s.dbi := rfl
@[simp] theorem removeCover_rch (p : Nat) (s : State) :
    (removeCover p s).rch = s.rch.enqueue Config.radioPlaces s.radioGate (.cover p false) := rfl
@[simp] theorem removeCover_tch (p : Nat) (s : State) : (removeCover p s).tch = s.tch := rfl
@[simp] theorem removeCover_cfg (p : Nat) (s : State) : (removeCover p s).cfg = s.cfg := rfl

/-! ### setReturnHold -/

@[simp] theorem setReturnHold_pending (p : Nat) (t : Option Nat) (s : State) :
    (setReturnHold p t s).pending = s.pending := rfl
@[simp] theorem setReturnHold_timebase (p : Nat) (t : Option Nat) (s : State) :
    (setReturnHold p t s).timebase = s.timebase := rfl
@[simp] theorem setReturnHold_radioHold (p : Nat) (t : Option Nat) (s : State) :
    (setReturnHold p t s).radioHold = s.radioHold := rfl
@[simp] theorem setReturnHold_terminalHold (p : Nat) (t : Option Nat) (s : State) :
    (setReturnHold p t s).terminalHold = s.terminalHold := rfl
@[simp] theorem setReturnHold_sub (p : Nat) (t : Option Nat) (s : State) : (setReturnHold p t s).sub = s.sub := rfl
@[simp] theorem setReturnHold_hov (p : Nat) (t : Option Nat) (s : State) : (setReturnHold p t s).hov = s.hov := rfl
@[simp] theorem setReturnHold_bsd (p : Nat) (t : Option Nat) (s : State) : (setReturnHold p t s).bsd = s.bsd := rfl
@[simp] theorem setReturnHold_rtk (p : Nat) (t : Option Nat) (s : State) : (setReturnHold p t s).rtk = s.rtk := rfl
@[simp] theorem setReturnHold_slc (p : Nat) (t : Option Nat) (s : State) : (setReturnHold p t s).slc = s.slc := rfl
@[simp] theorem setReturnHold_tbl (p : Nat) (t : Option Nat) (s : State) : (setReturnHold p t s).tbl = s.tbl := rfl
@[simp] theorem setReturnHold_dbi (p : Nat) (t : Option Nat) (s : State) : (setReturnHold p t s).dbi = s.dbi := rfl
@[simp] theorem setReturnHold_rch (p : Nat) (t : Option Nat) (s : State) : (setReturnHold p t s).rch = s.rch := rfl
@[simp] theorem setReturnHold_radioFault (p : Nat) (t : Option Nat) (s : State) :
    (setReturnHold p t s).radioFault = s.radioFault := rfl
@[simp] theorem setReturnHold_tch (p : Nat) (t : Option Nat) (s : State) : (setReturnHold p t s).tch = s.tch := rfl
@[simp] theorem setReturnHold_cfg (p : Nat) (t : Option Nat) (s : State) : (setReturnHold p t s).cfg = s.cfg := rfl

/-! ### setPeer -/

@[simp] theorem setPeer_pending (e : Peer) (s : State) : (setPeer e s).pending = s.pending := rfl
@[simp] theorem setPeer_timebase (e : Peer) (s : State) : (setPeer e s).timebase = s.timebase := rfl
@[simp] theorem setPeer_radioHold (e : Peer) (s : State) : (setPeer e s).radioHold = s.radioHold := rfl
@[simp] theorem setPeer_terminalHold (e : Peer) (s : State) : (setPeer e s).terminalHold = s.terminalHold := rfl
@[simp] theorem setPeer_sub (e : Peer) (s : State) : (setPeer e s).sub = s.sub := rfl
@[simp] theorem setPeer_hov (e : Peer) (s : State) : (setPeer e s).hov = s.hov := rfl
@[simp] theorem setPeer_bsd (e : Peer) (s : State) : (setPeer e s).bsd = s.bsd := rfl
@[simp] theorem setPeer_rtk (e : Peer) (s : State) : (setPeer e s).rtk = s.rtk := rfl
@[simp] theorem setPeer_slc (e : Peer) (s : State) : (setPeer e s).slc = s.slc := rfl
@[simp] theorem setPeer_prc (e : Peer) (s : State) :
    (setPeer e s).prc = { s.prc with roster := s.prc.roster.map (fun x => if x.station = e.station then e else x) } := rfl
@[simp] theorem setPeer_tbl (e : Peer) (s : State) : (setPeer e s).tbl = s.tbl := rfl
@[simp] theorem setPeer_dbi (e : Peer) (s : State) : (setPeer e s).dbi = s.dbi := rfl
@[simp] theorem setPeer_rch (e : Peer) (s : State) : (setPeer e s).rch = s.rch := rfl
@[simp] theorem setPeer_radioFault (e : Peer) (s : State) : (setPeer e s).radioFault = s.radioFault := rfl
@[simp] theorem setPeer_tch (e : Peer) (s : State) : (setPeer e s).tch = s.tch := rfl
@[simp] theorem setPeer_cfg (e : Peer) (s : State) : (setPeer e s).cfg = s.cfg := rfl

/-! ### setServing -/

@[simp] theorem setServing_pending (v : Serving) (s : State) : (setServing v s).pending = s.pending := rfl
@[simp] theorem setServing_timebase (v : Serving) (s : State) : (setServing v s).timebase = s.timebase := rfl
@[simp] theorem setServing_radioHold (v : Serving) (s : State) : (setServing v s).radioHold = s.radioHold := rfl
@[simp] theorem setServing_terminalHold (v : Serving) (s : State) :
    (setServing v s).terminalHold = s.terminalHold := rfl
@[simp] theorem setServing_sub (v : Serving) (s : State) : (setServing v s).sub = s.sub := rfl
@[simp] theorem setServing_hov (v : Serving) (s : State) : (setServing v s).hov = s.hov := rfl
@[simp] theorem setServing_bsd (v : Serving) (s : State) : (setServing v s).bsd = s.bsd := rfl
@[simp] theorem setServing_rtk (v : Serving) (s : State) : (setServing v s).rtk = s.rtk := rfl
@[simp] theorem setServing_slc (v : Serving) (s : State) : (setServing v s).slc = s.slc := rfl
@[simp] theorem setServing_prc (v : Serving) (s : State) : (setServing v s).prc = { s.prc with serving := v } := rfl
@[simp] theorem setServing_tbl (v : Serving) (s : State) : (setServing v s).tbl = s.tbl := rfl
@[simp] theorem setServing_dbi (v : Serving) (s : State) : (setServing v s).dbi = s.dbi := rfl
@[simp] theorem setServing_rch (v : Serving) (s : State) : (setServing v s).rch = s.rch := rfl
@[simp] theorem setServing_radioFault (v : Serving) (s : State) : (setServing v s).radioFault = s.radioFault := rfl
@[simp] theorem setServing_tch (v : Serving) (s : State) : (setServing v s).tch = s.tch := rfl
@[simp] theorem setServing_cfg (v : Serving) (s : State) : (setServing v s).cfg = s.cfg := rfl

/-! ### scheduleBeacon -/

@[simp] theorem scheduleBeacon_pending (t : Nat) (s : State) : (scheduleBeacon t s).pending = s.pending := rfl
@[simp] theorem scheduleBeacon_timebase (t : Nat) (s : State) : (scheduleBeacon t s).timebase = s.timebase := rfl
@[simp] theorem scheduleBeacon_radioHold (t : Nat) (s : State) : (scheduleBeacon t s).radioHold = s.radioHold := rfl
@[simp] theorem scheduleBeacon_terminalHold (t : Nat) (s : State) :
    (scheduleBeacon t s).terminalHold = s.terminalHold := rfl
@[simp] theorem scheduleBeacon_sub (t : Nat) (s : State) : (scheduleBeacon t s).sub = s.sub := rfl
@[simp] theorem scheduleBeacon_hov (t : Nat) (s : State) : (scheduleBeacon t s).hov = s.hov := rfl
@[simp] theorem scheduleBeacon_bsd (t : Nat) (s : State) : (scheduleBeacon t s).bsd = s.bsd := rfl
@[simp] theorem scheduleBeacon_rtk (t : Nat) (s : State) : (scheduleBeacon t s).rtk = s.rtk := rfl
@[simp] theorem scheduleBeacon_slc (t : Nat) (s : State) : (scheduleBeacon t s).slc = s.slc := rfl
@[simp] theorem scheduleBeacon_prc (t : Nat) (s : State) :
    (scheduleBeacon t s).prc = { s.prc with nextBeacon := some (t + Config.beaconPeriod) } := rfl
@[simp] theorem scheduleBeacon_tbl (t : Nat) (s : State) : (scheduleBeacon t s).tbl = s.tbl := rfl
@[simp] theorem scheduleBeacon_dbi (t : Nat) (s : State) : (scheduleBeacon t s).dbi = s.dbi := rfl
@[simp] theorem scheduleBeacon_rch (t : Nat) (s : State) : (scheduleBeacon t s).rch = s.rch := rfl
@[simp] theorem scheduleBeacon_radioFault (t : Nat) (s : State) :
    (scheduleBeacon t s).radioFault = s.radioFault := rfl
@[simp] theorem scheduleBeacon_tch (t : Nat) (s : State) : (scheduleBeacon t s).tch = s.tch := rfl
@[simp] theorem scheduleBeacon_cfg (t : Nat) (s : State) : (scheduleBeacon t s).cfg = s.cfg := rfl

/-! ### sendIdentity -/

@[simp] theorem sendIdentity_pending (s : State) : (sendIdentity s).pending = s.pending := rfl
@[simp] theorem sendIdentity_timebase (s : State) : (sendIdentity s).timebase = s.timebase := rfl
@[simp] theorem sendIdentity_radioHold (s : State) : (sendIdentity s).radioHold = s.radioHold := rfl
@[simp] theorem sendIdentity_terminalHold (s : State) : (sendIdentity s).terminalHold = s.terminalHold := rfl
@[simp] theorem sendIdentity_sub (s : State) : (sendIdentity s).sub = s.sub := rfl
@[simp] theorem sendIdentity_hov (s : State) : (sendIdentity s).hov = s.hov := rfl
@[simp] theorem sendIdentity_bsd (s : State) : (sendIdentity s).bsd = s.bsd := rfl
@[simp] theorem sendIdentity_rtk (s : State) : (sendIdentity s).rtk = s.rtk := rfl
@[simp] theorem sendIdentity_slc (s : State) : (sendIdentity s).slc = s.slc := rfl
@[simp] theorem sendIdentity_prc (s : State) : (sendIdentity s).prc = s.prc := rfl
@[simp] theorem sendIdentity_tbl (s : State) : (sendIdentity s).tbl = s.tbl := rfl
@[simp] theorem sendIdentity_dbi (s : State) : (sendIdentity s).dbi = s.dbi := rfl
@[simp] theorem sendIdentity_rch (s : State) :
    (sendIdentity s).rch = s.rch.enqueue Config.radioPlaces s.radioGate (.identity s.identityCode) := rfl
@[simp] theorem sendIdentity_tch (s : State) : (sendIdentity s).tch = s.tch := rfl
@[simp] theorem sendIdentity_cfg (s : State) : (sendIdentity s).cfg = s.cfg := rfl

/-! ### countSlip -/

@[simp] theorem countSlip_pending (s : State) : (countSlip s).pending = s.pending := rfl
@[simp] theorem countSlip_timebase (s : State) : (countSlip s).timebase = s.timebase := rfl
@[simp] theorem countSlip_radioHold (s : State) : (countSlip s).radioHold = s.radioHold := rfl
@[simp] theorem countSlip_terminalHold (s : State) : (countSlip s).terminalHold = s.terminalHold := rfl
@[simp] theorem countSlip_sub (s : State) : (countSlip s).sub = s.sub := rfl
@[simp] theorem countSlip_hov (s : State) : (countSlip s).hov = s.hov := rfl
@[simp] theorem countSlip_bsd (s : State) : (countSlip s).bsd = s.bsd := rfl
@[simp] theorem countSlip_rtk (s : State) :
    (countSlip s).rtk = { s.rtk with
      slipCount := satInc Config.maxCount s.rtk.slipCount, slipUntil := some (s.timebase + Config.slipLife) } := rfl
@[simp] theorem countSlip_slc (s : State) : (countSlip s).slc = s.slc := rfl
@[simp] theorem countSlip_prc (s : State) : (countSlip s).prc = s.prc := rfl
@[simp] theorem countSlip_tbl (s : State) : (countSlip s).tbl = s.tbl := rfl
@[simp] theorem countSlip_dbi (s : State) : (countSlip s).dbi = s.dbi := rfl
@[simp] theorem countSlip_rch (s : State) : (countSlip s).rch = s.rch := rfl
@[simp] theorem countSlip_radioFault (s : State) : (countSlip s).radioFault = s.radioFault := rfl
@[simp] theorem countSlip_tch (s : State) : (countSlip s).tch = s.tch := rfl
@[simp] theorem countSlip_cfg (s : State) : (countSlip s).cfg = s.cfg := rfl

/-! ### countStale -/

@[simp] theorem countStale_pending (s : State) : (countStale s).pending = s.pending := rfl
@[simp] theorem countStale_timebase (s : State) : (countStale s).timebase = s.timebase := rfl
@[simp] theorem countStale_radioHold (s : State) : (countStale s).radioHold = s.radioHold := rfl
@[simp] theorem countStale_terminalHold (s : State) : (countStale s).terminalHold = s.terminalHold := rfl
@[simp] theorem countStale_sub (s : State) : (countStale s).sub = s.sub := rfl
@[simp] theorem countStale_hov (s : State) :
    (countStale s).hov = { s.hov with staleReleases := satInc Config.maxCount s.hov.staleReleases } := rfl
@[simp] theorem countStale_bsd (s : State) : (countStale s).bsd = s.bsd := rfl
@[simp] theorem countStale_rtk (s : State) : (countStale s).rtk = s.rtk := rfl
@[simp] theorem countStale_slc (s : State) : (countStale s).slc = s.slc := rfl
@[simp] theorem countStale_prc (s : State) : (countStale s).prc = s.prc := rfl
@[simp] theorem countStale_tbl (s : State) : (countStale s).tbl = s.tbl := rfl
@[simp] theorem countStale_dbi (s : State) : (countStale s).dbi = s.dbi := rfl
@[simp] theorem countStale_rch (s : State) : (countStale s).rch = s.rch := rfl
@[simp] theorem countStale_radioFault (s : State) : (countStale s).radioFault = s.radioFault := rfl
@[simp] theorem countStale_tch (s : State) : (countStale s).tch = s.tch := rfl
@[simp] theorem countStale_cfg (s : State) : (countStale s).cfg = s.cfg := rfl

/-! ### setWindow -/

@[simp] theorem setWindow_pending (w : Option Window) (s : State) : (setWindow w s).pending = s.pending := rfl
@[simp] theorem setWindow_timebase (w : Option Window) (s : State) : (setWindow w s).timebase = s.timebase := rfl
@[simp] theorem setWindow_radioHold (w : Option Window) (s : State) : (setWindow w s).radioHold = s.radioHold := rfl
@[simp] theorem setWindow_terminalHold (w : Option Window) (s : State) :
    (setWindow w s).terminalHold = s.terminalHold := rfl
@[simp] theorem setWindow_sub (w : Option Window) (s : State) : (setWindow w s).sub = s.sub := rfl
@[simp] theorem setWindow_hov (w : Option Window) (s : State) : (setWindow w s).hov = s.hov := rfl
@[simp] theorem setWindow_bsd (w : Option Window) (s : State) : (setWindow w s).bsd = s.bsd := rfl
@[simp] theorem setWindow_rtk (w : Option Window) (s : State) : (setWindow w s).rtk = s.rtk := rfl
@[simp] theorem setWindow_slc (w : Option Window) (s : State) : (setWindow w s).slc = s.slc := rfl
@[simp] theorem setWindow_prc (w : Option Window) (s : State) : (setWindow w s).prc = s.prc := rfl
@[simp] theorem setWindow_tbl (w : Option Window) (s : State) :
    (setWindow w s).tbl = { s.tbl with window := w } := rfl
@[simp] theorem setWindow_dbi (w : Option Window) (s : State) : (setWindow w s).dbi = s.dbi := rfl
@[simp] theorem setWindow_rch (w : Option Window) (s : State) : (setWindow w s).rch = s.rch := rfl
@[simp] theorem setWindow_radioFault (w : Option Window) (s : State) :
    (setWindow w s).radioFault = s.radioFault := rfl
@[simp] theorem setWindow_tch (w : Option Window) (s : State) : (setWindow w s).tch = s.tch := rfl
@[simp] theorem setWindow_cfg (w : Option Window) (s : State) : (setWindow w s).cfg = s.cfg := rfl

/-! ### countRefusedOpen -/

@[simp] theorem countRefusedOpen_pending (s : State) : (countRefusedOpen s).pending = s.pending := rfl
@[simp] theorem countRefusedOpen_timebase (s : State) : (countRefusedOpen s).timebase = s.timebase := rfl
@[simp] theorem countRefusedOpen_radioHold (s : State) : (countRefusedOpen s).radioHold = s.radioHold := rfl
@[simp] theorem countRefusedOpen_terminalHold (s : State) : (countRefusedOpen s).terminalHold = s.terminalHold := rfl
@[simp] theorem countRefusedOpen_sub (s : State) : (countRefusedOpen s).sub = s.sub := rfl
@[simp] theorem countRefusedOpen_hov (s : State) : (countRefusedOpen s).hov = s.hov := rfl
@[simp] theorem countRefusedOpen_bsd (s : State) : (countRefusedOpen s).bsd = s.bsd := rfl
@[simp] theorem countRefusedOpen_rtk (s : State) : (countRefusedOpen s).rtk = s.rtk := rfl
@[simp] theorem countRefusedOpen_slc (s : State) : (countRefusedOpen s).slc = s.slc := rfl
@[simp] theorem countRefusedOpen_prc (s : State) : (countRefusedOpen s).prc = s.prc := rfl
@[simp] theorem countRefusedOpen_tbl (s : State) :
    (countRefusedOpen s).tbl = { s.tbl with refusedOpens := satInc Config.maxCount s.tbl.refusedOpens } := rfl
@[simp] theorem countRefusedOpen_dbi (s : State) : (countRefusedOpen s).dbi = s.dbi := rfl
@[simp] theorem countRefusedOpen_rch (s : State) : (countRefusedOpen s).rch = s.rch := rfl
@[simp] theorem countRefusedOpen_radioFault (s : State) : (countRefusedOpen s).radioFault = s.radioFault := rfl
@[simp] theorem countRefusedOpen_tch (s : State) : (countRefusedOpen s).tch = s.tch := rfl
@[simp] theorem countRefusedOpen_cfg (s : State) : (countRefusedOpen s).cfg = s.cfg := rfl

/-! ### countStray -/

@[simp] theorem countStray_pending (s : State) : (countStray s).pending = s.pending := rfl
@[simp] theorem countStray_timebase (s : State) : (countStray s).timebase = s.timebase := rfl
@[simp] theorem countStray_radioHold (s : State) : (countStray s).radioHold = s.radioHold := rfl
@[simp] theorem countStray_terminalHold (s : State) : (countStray s).terminalHold = s.terminalHold := rfl
@[simp] theorem countStray_sub (s : State) : (countStray s).sub = s.sub := rfl
@[simp] theorem countStray_hov (s : State) : (countStray s).hov = s.hov := rfl
@[simp] theorem countStray_bsd (s : State) : (countStray s).bsd = s.bsd := rfl
@[simp] theorem countStray_rtk (s : State) : (countStray s).rtk = s.rtk := rfl
@[simp] theorem countStray_slc (s : State) : (countStray s).slc = s.slc := rfl
@[simp] theorem countStray_prc (s : State) : (countStray s).prc = s.prc := rfl
@[simp] theorem countStray_tbl (s : State) :
    (countStray s).tbl = { s.tbl with strayData := satInc Config.maxCount s.tbl.strayData } := rfl
@[simp] theorem countStray_dbi (s : State) : (countStray s).dbi = s.dbi := rfl
@[simp] theorem countStray_rch (s : State) : (countStray s).rch = s.rch := rfl
@[simp] theorem countStray_radioFault (s : State) : (countStray s).radioFault = s.radioFault := rfl
@[simp] theorem countStray_tch (s : State) : (countStray s).tch = s.tch := rfl
@[simp] theorem countStray_cfg (s : State) : (countStray s).cfg = s.cfg := rfl

/-! ### radioGood -/

@[simp] theorem radioGood_pending (s : State) : (radioGood s).pending = s.pending := rfl
@[simp] theorem radioGood_timebase (s : State) : (radioGood s).timebase = s.timebase := rfl
@[simp] theorem radioGood_radioHold (s : State) : (radioGood s).radioHold = s.radioHold := rfl
@[simp] theorem radioGood_terminalHold (s : State) : (radioGood s).terminalHold = s.terminalHold := rfl
@[simp] theorem radioGood_sub (s : State) : (radioGood s).sub = s.sub := rfl
@[simp] theorem radioGood_hov (s : State) : (radioGood s).hov = s.hov := rfl
@[simp] theorem radioGood_bsd (s : State) : (radioGood s).bsd = s.bsd := rfl
@[simp] theorem radioGood_rtk (s : State) : (radioGood s).rtk = s.rtk := rfl
@[simp] theorem radioGood_slc (s : State) : (radioGood s).slc = s.slc := rfl
@[simp] theorem radioGood_prc (s : State) : (radioGood s).prc = s.prc := rfl
@[simp] theorem radioGood_tbl (s : State) : (radioGood s).tbl = s.tbl := rfl
@[simp] theorem radioGood_dbi (s : State) : (radioGood s).dbi = s.dbi := rfl
@[simp] theorem radioGood_rch (s : State) : (radioGood s).rch = s.rch.goodMessage s.timebase := rfl
@[simp] theorem radioGood_radioFault (s : State) : (radioGood s).radioFault = s.radioFault := rfl
@[simp] theorem radioGood_tch (s : State) : (radioGood s).tch = s.tch := rfl
@[simp] theorem radioGood_cfg (s : State) : (radioGood s).cfg = s.cfg := rfl

/-! ### terminalGood -/

@[simp] theorem terminalGood_pending (s : State) : (terminalGood s).pending = s.pending := rfl
@[simp] theorem terminalGood_timebase (s : State) : (terminalGood s).timebase = s.timebase := rfl
@[simp] theorem terminalGood_radioHold (s : State) : (terminalGood s).radioHold = s.radioHold := rfl
@[simp] theorem terminalGood_terminalHold (s : State) : (terminalGood s).terminalHold = s.terminalHold := rfl
@[simp] theorem terminalGood_sub (s : State) : (terminalGood s).sub = s.sub := rfl
@[simp] theorem terminalGood_hov (s : State) : (terminalGood s).hov = s.hov := rfl
@[simp] theorem terminalGood_bsd (s : State) : (terminalGood s).bsd = s.bsd := rfl
@[simp] theorem terminalGood_rtk (s : State) : (terminalGood s).rtk = s.rtk := rfl
@[simp] theorem terminalGood_slc (s : State) : (terminalGood s).slc = s.slc := rfl
@[simp] theorem terminalGood_prc (s : State) : (terminalGood s).prc = s.prc := rfl
@[simp] theorem terminalGood_tbl (s : State) : (terminalGood s).tbl = s.tbl := rfl
@[simp] theorem terminalGood_dbi (s : State) : (terminalGood s).dbi = s.dbi := rfl
@[simp] theorem terminalGood_rch (s : State) : (terminalGood s).rch = s.rch := rfl
@[simp] theorem terminalGood_radioFault (s : State) : (terminalGood s).radioFault = s.radioFault := rfl
@[simp] theorem terminalGood_tch (s : State) : (terminalGood s).tch = s.tch.goodMessage s.timebase := rfl
@[simp] theorem terminalGood_cfg (s : State) : (terminalGood s).cfg = s.cfg := rfl

/-! ### startRadio -/

@[simp] theorem startRadio_pending (s : State) : (startRadio s).pending = s.pending := rfl
@[simp] theorem startRadio_timebase (s : State) : (startRadio s).timebase = s.timebase := rfl
@[simp] theorem startRadio_radioHold (s : State) : (startRadio s).radioHold = s.radioHold := rfl
@[simp] theorem startRadio_terminalHold (s : State) : (startRadio s).terminalHold = s.terminalHold := rfl
@[simp] theorem startRadio_sub (s : State) : (startRadio s).sub = s.sub := rfl
@[simp] theorem startRadio_hov (s : State) : (startRadio s).hov = s.hov := rfl
@[simp] theorem startRadio_bsd (s : State) : (startRadio s).bsd = s.bsd := rfl
@[simp] theorem startRadio_rtk (s : State) : (startRadio s).rtk = s.rtk := rfl
@[simp] theorem startRadio_slc (s : State) : (startRadio s).slc = s.slc := rfl
@[simp] theorem startRadio_prc (s : State) : (startRadio s).prc = s.prc := rfl
@[simp] theorem startRadio_tbl (s : State) : (startRadio s).tbl = s.tbl := rfl
@[simp] theorem startRadio_dbi (s : State) : (startRadio s).dbi = s.dbi := rfl
@[simp] theorem startRadio_rch (s : State) : (startRadio s).rch = s.rch.start s.radioGate := rfl
@[simp] theorem startRadio_radioFault (s : State) : (startRadio s).radioFault = s.radioFault := rfl
@[simp] theorem startRadio_tch (s : State) : (startRadio s).tch = s.tch := rfl
@[simp] theorem startRadio_cfg (s : State) : (startRadio s).cfg = s.cfg := rfl

/-! ### tick -/

@[simp] theorem tick_pending (s : State) : (tick s).pending = s.pending := rfl
@[simp] theorem tick_timebase (s : State) : (tick s).timebase = (s.timebase + 1) % Config.timebaseModulus := rfl
@[simp] theorem tick_radioHold (s : State) : (tick s).radioHold = s.radioHold := rfl
@[simp] theorem tick_terminalHold (s : State) : (tick s).terminalHold = s.terminalHold := rfl
@[simp] theorem tick_sub (s : State) : (tick s).sub = s.sub := rfl
@[simp] theorem tick_hov (s : State) : (tick s).hov = s.hov := rfl
@[simp] theorem tick_bsd (s : State) : (tick s).bsd = s.bsd := rfl
@[simp] theorem tick_rtk (s : State) : (tick s).rtk = s.rtk := rfl
@[simp] theorem tick_slc (s : State) : (tick s).slc = s.slc := rfl
@[simp] theorem tick_prc (s : State) : (tick s).prc = s.prc := rfl
@[simp] theorem tick_tbl (s : State) : (tick s).tbl = s.tbl := rfl
@[simp] theorem tick_dbi (s : State) : (tick s).dbi = s.dbi := rfl
@[simp] theorem tick_rch (s : State) : (tick s).rch = s.rch := rfl
@[simp] theorem tick_radioFault (s : State) : (tick s).radioFault = s.radioFault := rfl
@[simp] theorem tick_tch (s : State) : (tick s).tch = s.tch := rfl
@[simp] theorem tick_cfg (s : State) : (tick s).cfg = s.cfg := rfl

/-! ### Chan.hunt -/

@[simp] theorem Chan.hunt_up {δ : Type} (c : Chan δ) : (c.hunt).up = c.up := rfl
@[simp] theorem Chan.hunt_silenceFrom {δ : Type} (c : Chan δ) : (c.hunt).silenceFrom = c.silenceFrom := rfl
@[simp] theorem Chan.hunt_receiver {δ : Type} (c : Chan δ) : (c.hunt).receiver = .hunting := rfl
@[simp] theorem Chan.hunt_errors {δ : Type} (c : Chan δ) : (c.hunt).errors = c.errors := rfl
@[simp] theorem Chan.hunt_overruns {δ : Type} (c : Chan δ) : (c.hunt).overruns = c.overruns := rfl
@[simp] theorem Chan.hunt_drops {δ : Type} (c : Chan δ) : (c.hunt).drops = c.drops := rfl
@[simp] theorem Chan.hunt_queue {δ : Type} (c : Chan δ) : (c.hunt).queue = c.queue := rfl
@[simp] theorem Chan.hunt_sending {δ : Type} (c : Chan δ) : (c.hunt).sending = c.sending := rfl
@[simp] theorem Chan.hunt_markHold {δ : Type} (c : Chan δ) : (c.hunt).markHold = c.markHold := rfl

/-! ### Chan.goodMessage -/

@[simp] theorem Chan.goodMessage_up {δ : Type} (now : Nat) (c : Chan δ) : (c.goodMessage now).up = true := rfl
@[simp] theorem Chan.goodMessage_silenceFrom {δ : Type} (now : Nat) (c : Chan δ) :
    (c.goodMessage now).silenceFrom = some now := rfl
@[simp] theorem Chan.goodMessage_receiver {δ : Type} (now : Nat) (c : Chan δ) :
    (c.goodMessage now).receiver = .hunting := rfl
@[simp] theorem Chan.goodMessage_errors {δ : Type} (now : Nat) (c : Chan δ) :
    (c.goodMessage now).errors = c.errors := rfl
@[simp] theorem Chan.goodMessage_overruns {δ : Type} (now : Nat) (c : Chan δ) :
    (c.goodMessage now).overruns = c.overruns := rfl
@[simp] theorem Chan.goodMessage_drops {δ : Type} (now : Nat) (c : Chan δ) :
    (c.goodMessage now).drops = c.drops := rfl
@[simp] theorem Chan.goodMessage_queue {δ : Type} (now : Nat) (c : Chan δ) :
    (c.goodMessage now).queue = c.queue := rfl
@[simp] theorem Chan.goodMessage_sending {δ : Type} (now : Nat) (c : Chan δ) :
    (c.goodMessage now).sending = c.sending := rfl
@[simp] theorem Chan.goodMessage_markHold {δ : Type} (now : Nat) (c : Chan δ) :
    (c.goodMessage now).markHold = c.markHold := rfl

/-! ### Chan.overrun -/

@[simp] theorem Chan.overrun_up {δ : Type} (c : Chan δ) : (c.overrun).up = c.up := rfl
@[simp] theorem Chan.overrun_silenceFrom {δ : Type} (c : Chan δ) : (c.overrun).silenceFrom = c.silenceFrom := rfl
@[simp] theorem Chan.overrun_receiver {δ : Type} (c : Chan δ) : (c.overrun).receiver = .hunting := rfl
@[simp] theorem Chan.overrun_errors {δ : Type} (c : Chan δ) : (c.overrun).errors = c.errors := rfl
@[simp] theorem Chan.overrun_overruns {δ : Type} (c : Chan δ) :
    (c.overrun).overruns = satInc Config.maxCount c.overruns := rfl
@[simp] theorem Chan.overrun_drops {δ : Type} (c : Chan δ) : (c.overrun).drops = c.drops := rfl
@[simp] theorem Chan.overrun_queue {δ : Type} (c : Chan δ) : (c.overrun).queue = c.queue := rfl
@[simp] theorem Chan.overrun_sending {δ : Type} (c : Chan δ) : (c.overrun).sending = c.sending := rfl
@[simp] theorem Chan.overrun_markHold {δ : Type} (c : Chan δ) : (c.overrun).markHold = c.markHold := rfl

/-! ### What the readings of a slot and of the station see of an update -/

@[simp] theorem State.slot_queueRadio (d : RadioDirective) (s : State) (i : Nat) : (queueRadio d s).slot i = s.slot i := rfl
@[simp] theorem State.slot_queueTerminal (d : TerminalDirective) (s : State) (i : Nat) :
    (queueTerminal d s).slot i = s.slot i := rfl
@[simp] theorem State.slot_storeRecord (r : Record) (s : State) (i : Nat) : (storeRecord r s).slot i = s.slot i := rfl
@[simp] theorem State.slot_departureJoin (e : Entry) (s : State) (i : Nat) : (departureJoin e s).slot i = s.slot i := rfl
@[simp] theorem State.slot_forgetDeparture (k : Nat) (s : State) (i : Nat) :
    (forgetDeparture k s).slot i = s.slot i := rfl
@[simp] theorem State.slot_radioGood (s : State) (i : Nat) : (radioGood s).slot i = s.slot i := rfl

/-- Another slot is not touched by writing one. -/
@[simp] theorem State.slot_setSlot_ne (i j : Nat) (x : Slot) (s : State) (h : i ≠ j) : (s.setSlot i x).slot j = s.slot j := by
  simp [State.slot, State.setSlot, List.getD_eq_getElem?_getD, List.getElem?_set_ne h]

/-- A slot of the table reads as it was written. -/
theorem State.slot_setSlot_self (i : Nat) (x : Slot) (s : State) (h : i < s.sub.slots.length) :
    (s.setSlot i x).slot i = x := by
  simp [State.slot, State.setSlot, List.getD_eq_getElem?_getD, h]

/-- A slot that is not FREE is one of the table. -/
theorem State.lt_of_slot (i : Nat) (s : State) (h : s.slot i ≠ .free) : i < s.sub.slots.length := by
  by_contra hi
  exact h (by simp [State.slot, List.getD_eq_getElem?_getD, Nat.le_of_not_lt hi])

end Sys2Proof.Machine
end

