-- ==== Sys2Proof/Laws/Frame.lean ====
section
/-! SUPPORT. Frames: for each shared operation one lemma that names the blocks it may touch, so that a proof about a command
cites the frames of the operations it is made of and unfolds none of them. -/

-- One theorem after another: all at once take more threads than the check's memory holds.
set_option Elab.async false

namespace Sys2Proof.Machine

/-! ## The algebra of frames -/

theorem Block.same_refl (b : Block) (s : State) : b.same s s := by cases b <;> simp [Block.same]

theorem Block.same_trans (b : Block) {s t u : State} (h1 : b.same s t) (h2 : b.same t u) : b.same s u := by
  cases b <;> simp_all [Block.same]

theorem Touches.refl (bs : List Block) (s : State) : Touches bs s s := fun b _ => b.same_refl s

/-- The blocks of one list are all among those of another. -/
def within (as bs : List Block) : Bool := as.all (fun a => bs.any (fun b => decide (a = b)))

theorem mem_of_within {as bs : List Block} (h : within as bs = true) : ∀ b ∈ as, b ∈ bs := by
  intro b hb
  obtain ⟨c, hc, he⟩ := List.any_eq_true.1 (List.all_eq_true.1 h b hb)
  exact of_decide_eq_true he ▸ hc

/-- A frame may be widened. -/
theorem Touches.mono {as bs : List Block} {s t : State} (h : Touches as s t) (hs : within as bs = true := by rfl) :
    Touches bs s t := fun b hb => h b (fun ha => hb (mem_of_within hs b ha))

/-- One operation after another touches what both may touch. -/
theorem Touches.trans {bs : List Block} {s t u : State} (h1 : Touches bs s t) (h2 : Touches bs t u) : Touches bs s u :=
  fun b h => b.same_trans (h1 b h) (h2 b h)

/-- One operation after another touches what either touches. -/
theorem Touches.comp {as bs cs : List Block} {s t u : State} (h1 : Touches as s t) (h2 : Touches bs t u)
    (ha : within as cs = true := by rfl) (hb : within bs cs = true := by rfl) : Touches cs s u :=
  (h1.mono ha).trans (h2.mono hb)

/-- A fold touches what one of its steps touches. -/
theorem Touches.foldl {α : Type} {bs : List Block} (f : State → α → State) (h : ∀ s x, Touches bs s (f s x)) (l : List α)
    (s : State) : Touches bs s (l.foldl f s) := by
  induction l generalizing s with
  | nil => exact .refl bs s
  | cons x l ih => exact (h s x).trans (ih (f s x))

/-- A choice touches what either side touches. -/
theorem Touches.ite {bs : List Block} {s t u : State} (c : Prop) [Decidable c] (h1 : Touches bs s t)
    (h2 : Touches bs s u) : Touches bs s (if c then t else u) := by split <;> assumption

/-! ## Elementary updates, each of one block -/

theorem Touches.sub (s : State) (x : Sub) : Touches [.sub] s { s with sub := x } := by
  intro b hb; cases b <;> simp_all [Block.same]
theorem Touches.hov (s : State) (x : Hov) : Touches [.hov] s { s with hov := x } := by
  intro b hb; cases b <;> simp_all [Block.same]
theorem Touches.bsd (s : State) (x : Bsd) : Touches [.bsd] s { s with bsd := x } := by
  intro b hb; cases b <;> simp_all [Block.same]
theorem Touches.rtk (s : State) (x : Rtk) : Touches [.rtk] s { s with rtk := x } := by
  intro b hb; cases b <;> simp_all [Block.same]
theorem Touches.slc (s : State) (x : Slc) : Touches [.slc] s { s with slc := x } := by
  intro b hb; cases b <;> simp_all [Block.same]
theorem Touches.prc (s : State) (x : Prc) : Touches [.prc] s { s with prc := x } := by
  intro b hb; cases b <;> simp_all [Block.same]
theorem Touches.tbl (s : State) (x : Tbl) : Touches [.tbl] s { s with tbl := x } := by
  intro b hb; cases b <;> simp_all [Block.same]
theorem Touches.dbi (s : State) (x : Dbi) : Touches [.dbi] s { s with dbi := x } := by
  intro b hb; cases b <;> simp_all [Block.same]
theorem Touches.rch (s : State) (x : Chan RadioDirective) : Touches [.rch] s { s with rch := x } := by
  intro b hb; cases b <;> simp_all [Block.same]
theorem Touches.tch (s : State) (x : Chan TerminalDirective) : Touches [.tch] s { s with tch := x } := by
  intro b hb; cases b <;> simp_all [Block.same]
theorem Touches.cfg (s : State) (x : Cfg) : Touches [.cfg] s { s with cfg := x } := by
  intro b hb; cases b <;> simp_all [Block.same]
theorem Touches.timebase (s : State) (x : Nat) : Touches [.timebase] s { s with timebase := x } := by
  intro b hb; cases b <;> simp_all [Block.same]

theorem setSlot_touches (i : Nat) (x : Slot) (s : State) : Touches [.sub] s (s.setSlot i x) := .sub s _
theorem updateEntry_touches (i : Nat) (f : Entry → Entry) (s : State) : Touches [.sub] s (s.updateEntry i f) := by
  unfold State.updateEntry; split
  · exact setSlot_touches _ _ _
  · exact .refl _ _
theorem queueRadio_touches (d : RadioDirective) (s : State) : Touches [.rch] s (queueRadio d s) := by
  intro b hb; cases b <;> simp_all [Block.same]
theorem queueTerminal_touches (d : TerminalDirective) (s : State) : Touches [.tch] s (queueTerminal d s) := .tch s _
theorem countMalformed_touches (s : State) : Touches [.cfg] s (countMalformed s) := .cfg s _
theorem storeRecord_touches (r : Record) (s : State) : Touches [.bsd] s (storeRecord r s) := .bsd s _
theorem departureJoin_touches (e : Entry) (s : State) : Touches [.hov] s (departureJoin e s) := .hov s _
theorem forgetDeparture_touches (k : Nat) (s : State) : Touches [.hov] s (forgetDeparture k s) := .hov s _
theorem countStale_touches (s : State) : Touches [.hov] s (countStale s) := .hov s _
theorem countSlip_touches (s : State) : Touches [.rtk] s (countSlip s) := .rtk s _
theorem setWindow_touches (w : Option Window) (s : State) : Touches [.tbl] s (setWindow w s) := .tbl s _
theorem setPeer_touches (e : Peer) (s : State) : Touches [.prc] s (setPeer e s) := .prc s _
theorem setServing_touches (v : Serving) (s : State) : Touches [.prc] s (setServing v s) := .prc s _
theorem radioGood_touches (s : State) : Touches [.rch] s (radioGood s) := .rch s _
theorem terminalGood_touches (s : State) : Touches [.tch] s (terminalGood s) := .tch s _
theorem setReceiver_touches (ch : Channel) (r : Receiver) (s : State) : Touches [.rch, .tch] s (setReceiver ch r s) := by
  cases ch
  · intro b hb; cases b <;> simp_all [Block.same, setReceiver]
  · exact (Touches.tch s _).mono
theorem tick_touches (s : State) : Touches [.timebase] s (tick s) := .timebase s _

/-! ## Transmit queues -/

theorem forgetClaim_touches (k : Nat) (s : State) : Touches [.hov, .sub] s (forgetClaim k s) := by
  unfold forgetClaim; dsimp only; split
  · exact (Touches.hov s _).mono
  · exact (Touches.hov s _).comp (updateEntry_touches _ _ _)
theorem countClass1Drop_touches (s : State) : Touches [.dbi] s (countClass1Drop s) := .dbi s _
theorem offerRelease_touches (m : ReleaseMsg) (s : State) : Touches [.dbi, .hov, .sub] s (offerRelease m s) := by
  unfold offerRelease; split
  · exact .refl _ _
  · split
    · exact (Touches.dbi s _).mono
    · split
      · exact (countClass1Drop_touches s).mono
      · exact ((Touches.dbi s _).comp (countClass1Drop_touches _) (cs := [.dbi])).comp (forgetClaim_touches _ _)
theorem offerClaim_touches (k : Nat) (s : State) : Touches [.dbi, .hov, .sub] s (offerClaim k s) := by
  unfold offerClaim; split
  · exact .refl _ _
  · split
    · exact (Touches.dbi s _).mono
    · exact (countClass1Drop_touches s).comp (forgetClaim_touches _ _)
theorem offerLink_touches (m : LinkMsg) (s : State) : Touches [.dbi] s (offerLink m s) := by
  unfold offerLink; split
  · exact .refl _ _
  · split
    · exact .dbi s _
    · exact .ite _ (.dbi s _) (.dbi s _)
theorem offerBeacon_touches (s : State) : Touches [.dbi] s (offerBeacon s) := .ite _ (.refl _ _) (.dbi s _)
theorem placeBill_touches (r : Stored) (s : State) : Touches [.dbi] s (placeBill r s) := .ite _ (.refl _ _) (.dbi s _)
theorem placeDrainEnd_touches (m : DrainEndMsg) (s : State) : Touches [.dbi] s (placeDrainEnd m s) :=
  .ite _ (.refl _ _) (.dbi s _)
theorem offerReport_touches (m : ReportMsg) (s : State) : Touches [.dbi] s (offerReport m s) :=
  .ite _ (.refl _ _) (.ite _ (.dbi s _) (.dbi s _))

/-! ## Rating and billing -/

theorem rateSlot_touches (final quiet : Bool) (zone link i : Nat) (s : State) :
    Touches [.sub, .rch] s (rateSlot final quiet zone link i s) := by
  unfold rateSlot; split
  · exact .ite _ ((setSlot_touches _ _ _).comp (queueRadio_touches _ _)) (setSlot_touches _ _ _).mono
  · exact .refl _ _
theorem offerInterval_touches (cause : Cause) (i : Nat) (s : State) :
    Touches [.sub, .bsd] s (offerInterval cause i s) := by
  unfold offerInterval; split
  · exact .ite _ (.ite _ ((storeRecord_touches _ _).comp (setSlot_touches _ _ _))
      (.ite _ (setSlot_touches _ _ _).mono (.refl _ _))) (setSlot_touches _ _ _).mono
  · exact .refl _ _
theorem recordRating_touches (cause : Cause) (zone link i : Nat) (s : State) :
    Touches [.sub, .bsd, .rch] s (recordRating cause zone link i s) :=
  (rateSlot_touches _ _ _ _ _ _).comp (offerInterval_touches _ _ _)
theorem ratingEvent_touches (cause : Cause) (zone link : Nat) (s : State) :
    Touches [.sub, .bsd, .rch] s (ratingEvent cause zone link s) :=
  .foldl _ (fun _ _ => recordRating_touches _ _ _ _ _) _ _
theorem intervalCheck_touches (i : Nat) (s : State) : Touches [.sub, .bsd, .rch] s (intervalCheck i s) :=
  .ite _ (recordRating_touches _ _ _ _ _) (.refl _ _)
theorem intervalChecks_touches (s : State) : Touches [.sub, .bsd, .rch] s (intervalChecks s) :=
  .foldl _ (fun _ _ => intervalCheck_touches _ _) _ _
theorem moveClosing_touches (i : Nat) (s : State) : Touches [.sub, .bsd] s (moveClosing i s) := by
  unfold moveClosing; dsimp only; split
  · exact ((Touches.sub s _).comp (setSlot_touches _ _ _) (cs := [.sub])).comp (storeRecord_touches _ _)
  · exact (Touches.sub s _).mono
theorem moveWhileRoom_touches (l : List Nat) (s : State) : Touches [.sub, .bsd] s (moveWhileRoom l s) := by
  induction l generalizing s with
  | nil => exact .refl _ _
  | cons i l ih => exact .ite _ ((moveClosing_touches _ _).comp (ih _)) (.refl _ _)
theorem storeRoom_touches (s : State) : Touches [.sub, .bsd] s (storeRoom s) := moveWhileRoom_touches _ _

/-! ## Drain -/

theorem offerBill_touches (s : State) : Touches [.dbi] s (offerBill s) := by
  unfold offerBill; split
  · exact placeBill_touches _ _
  · exact .refl _ _
theorem endDrain_touches (status : StopStatus) (sent : Nat) (s : State) :
    Touches [.bsd, .dbi] s (endDrain status sent s) := by
  have h1 : Touches [.bsd] s { s with bsd := { s.bsd with drain := .ending sent none } } := .bsd _ _
  exact h1.comp (placeDrainEnd_touches _ _)
theorem beginDrain_touches (count : Nat) (s : State) : Touches [.bsd, .dbi] s (beginDrain count s) := by
  unfold beginDrain
  extract_lets _ s1
  have h1 : Touches [.bsd] s s1 := .bsd _ _
  exact .ite _ (h1.comp (endDrain_touches _ _ _)) (h1.comp (offerBill_touches _))
theorem requestDrain_touches (count : Nat) (s : State) : Touches [.bsd, .dbi] s (requestDrain count s) := by
  unfold requestDrain; split
  · exact beginDrain_touches _ _
  · exact (Touches.bsd s _).comp (offerBill_touches _)
  · exact (Touches.bsd s _).mono
theorem continueDrain_touches (s : State) : Touches [.bsd, .dbi] s (continueDrain s) := by
  unfold continueDrain; split
  · exact endDrain_touches _ _ _
  · exact .ite _ (endDrain_touches _ _ _) (offerBill_touches _).mono
  · exact .refl _ _
theorem drainEndSent_touches (s : State) : Touches [.bsd, .dbi] s (drainEndSent s) := by
  unfold drainEndSent; split
  · dsimp only; split
    · exact (Touches.bsd s _).mono
    · exact (Touches.bsd s _).comp (beginDrain_touches _ _)
  · exact .refl _ _

/-! ## Subscribers -/

theorem offerFinal_touches (r : Record) (i : Nat) (s : State) : Touches [.sub, .bsd] s (offerFinal r i s) :=
  .ite _ ((storeRecord_touches _ _).comp (setSlot_touches _ _ _)) ((setSlot_touches _ _ _).comp (Touches.sub _ _))
theorem finishClose_touches (cause : Cause) (quiet : Bool) (i : Nat) (s : State) :
    Touches [.sub, .hov, .bsd, .rch] s (finishClose cause quiet i s) := by
  unfold finishClose; split
  · extract_lets r _ s1 s2 s3
    have h1 : Touches [.sub] s s1 := .sub _ _
    have h2 : Touches [.hov] s1 s2 := .ite _ (departureJoin_touches _ _) (.refl _ _)
    have h3 : Touches [.rch] s2 s3 := .ite _ (queueRadio_touches _ _) (.refl _ _)
    have h : Touches [.sub, .hov, .rch] s s3 := (h1.comp h2 (cs := [.sub, .hov])).comp h3
    exact h.comp (.ite _ (offerFinal_touches _ _ _) (setSlot_touches _ _ _).mono) (bs := [.sub, .bsd])
  · exact .refl _ _
theorem closeSlot_touches (cause : Cause) (quiet : Bool) (i : Nat) (s : State) :
    Touches [.sub, .hov, .bsd, .rch] s (closeSlot cause quiet i s) :=
  (rateSlot_touches _ _ _ _ _ _).comp (finishClose_touches _ _ _ _)
theorem closeAll_touches (cause : Cause) (quiet : Bool) (l : List Nat) (s : State) :
    Touches [.sub, .hov, .bsd, .rch] s (closeAll cause quiet l s) :=
  .foldl _ (fun _ _ => closeSlot_touches _ _ _ _) _ _
theorem sweep_touches (cause : Cause) (quiet : Bool) (s : State) :
    Touches [.sub, .hov, .bsd, .rch] s (sweep cause quiet s) := closeAll_touches _ _ _ _
theorem recheckRow_touches (row : Nat) (s : State) : Touches [.sub, .hov, .bsd, .rch] s (recheckRow row s) :=
  closeAll_touches _ _ _ _
theorem recheckAll_touches (s : State) : Touches [.sub, .hov, .bsd, .rch] s (recheckAll s) := closeAll_touches _ _ _ _
theorem queueClaim_touches (k : Nat) (s : State) : Touches [.dbi, .hov, .sub] s (queueClaim k s) :=
  .ite _ (.refl _ _) ((Touches.hov s _).comp (offerClaim_touches _ _))
theorem admitInto_touches (i key partner : Nat) (grant : Services) (s : State) :
    Touches [.sub, .hov, .dbi, .rch] s (admitInto i key partner grant s) := by
  unfold admitInto
  extract_lets e s1 _ s2
  have h1 : Touches [.sub, .hov] s s1 := (setSlot_touches _ _ _).comp (forgetDeparture_touches _ _)
  have h2 : Touches [.sub] s1 s2 := .sub _ _
  have h3 : Touches [.sub, .hov, .rch] s (queueRadio (s2.answer e) s2) :=
    (h1.comp h2 (cs := [.sub, .hov])).comp (queueRadio_touches _ _)
  exact h3.comp (queueClaim_touches _ _)
theorem refuse_touches (k : Nat) (r : RefuseReason) (s : State) : Touches [.rch] s (refuse k r s) :=
  queueRadio_touches _ _
theorem admitNew_touches (key partner : Nat) (grant : Services) (s : State) :
    Touches [.sub, .hov, .bsd, .dbi, .rch] s (admitNew key partner grant s) := by
  unfold admitNew; split
  · exact (admitInto_touches _ _ _ _ _).mono
  · split
    · exact (refuse_touches _ _ _).mono
    · split
      · dsimp only; split
        · exact (closeSlot_touches _ _ _ _).comp (admitInto_touches _ _ _ _ _)
        · exact (closeSlot_touches _ _ _ _).comp (refuse_touches _ _ _)
      · exact (refuse_touches _ _ _).mono
theorem attach_touches (key home : Nat) (v : Services) (s : State) :
    Touches [.sub, .hov, .bsd, .dbi, .rch] s (attach key home v s) := by
  unfold attach; split
  · exact (refuse_touches _ _ _).mono
  · split
    · exact (refuse_touches _ _ _).mono
    · split
      · unfold admitChecked; split
        · exact (refuse_touches _ _ _).mono
        · exact .ite _ (refuse_touches _ _ _).mono (.ite _ (refuse_touches _ _ _).mono
            (.ite _ (refuse_touches _ _ _).mono (admitNew_touches _ _ _ _)))
      · split
        · exact (queueRadio_touches _ _).mono
        · exact .refl _ _
theorem takeUsage_touches (key data voice : Nat) (s : State) :
    Touches [.sub, .bsd, .rch] s (takeUsage key data voice s) := by
  unfold takeUsage; split
  · exact (Touches.sub s _).mono
  · exact (updateEntry_touches _ _ _).comp (.ite _ (recordRating_touches _ _ _ _ _)
      (.ite _ (rateSlot_touches _ _ _ _ _ _).mono (.refl _ _)))
theorem takeDetach_touches (key : Nat) (s : State) : Touches [.sub, .hov, .bsd, .rch] s (takeDetach key s) := by
  unfold takeDetach; split
  · exact .refl _ _
  · exact closeSlot_touches _ _ _ _
theorem unbar_touches (i : Nat) (s : State) : Touches [.sub, .rch] s (unbar i s) := by
  unfold unbar; split
  · split
    · exact (setSlot_touches _ _ _).comp (queueRadio_touches _ _)
    · exact .refl _ _
  · exact .refl _ _
theorem voyageStart_touches (s : State) : Touches [.sub, .hov, .bsd, .rtk, .rch] s (voyageStart s) := by
  unfold voyageStart
  extract_lets s1 _ s2 _ s3 s4
  have h1 : Touches [.sub, .bsd, .rch] s s1 := ratingEvent_touches _ _ _ _
  have h2 : Touches [.rtk] s1 s2 := .rtk _ _
  have h3 : Touches [.sub] s2 s3 := .sub _ _
  have h4 : Touches [.sub, .rch] s3 s4 := .foldl _ (fun _ _ => unbar_touches _ _) _ _
  have h : Touches [.sub, .bsd, .rtk, .rch] s s4 :=
    ((h1.comp h2 (cs := [.sub, .bsd, .rtk, .rch])).comp h3 (cs := [.sub, .bsd, .rtk, .rch])).comp h4
  refine h.comp (bs := [.hov, .bsd]) ?_
  intro b hb; cases b <;> simp_all [Block.same]

/-! ## Shore link -/

theorem announce_touches (a : Announce) (s : State) : Touches [.dbi] s (announce a s) := offerLink_touches _ _
theorem deactivate_touches (s : State) : Touches [.slc, .tch] s (deactivate s) :=
  (queueTerminal_touches _ _).comp (Touches.slc _ _)
theorem enterFailed_touches (s : State) : Touches [.slc, .tch, .dbi] s (enterFailed s) := by
  unfold enterFailed
  extract_lets _ s1
  have h1 : Touches [.slc] s s1 := .slc _ _
  exact (h1.comp (deactivate_touches _) (cs := [.slc, .tch])).comp (announce_touches _ _)
theorem settled_touches (s : State) : Touches [.slc, .tch, .dbi] s (settled s) := by
  unfold settled
  extract_lets _ s1
  have h1 : Touches [.slc] s s1 := .slc _ _
  exact .ite _ (h1.comp (Touches.slc s1 _)) (h1.comp (enterFailed_touches _))
theorem activate_touches (s : State) : Touches [.slc, .tch, .dbi] s (activate s) := by
  unfold activate
  extract_lets s1 _ _ s2
  have h : Touches [.slc, .tch] s s2 := by intro b hb; cases b <;> simp_all [Block.same, s1, s2]
  exact .ite _ (h.comp (settled_touches _)) h.mono
theorem enterOff_touches (s : State) : Touches [.slc, .tch, .dbi] s (enterOff s) := by
  unfold enterOff
  extract_lets _ s1
  have h1 : Touches [.slc] s s1 := .slc _ _
  exact .ite _ (h1.comp (activate_touches _)) h1.mono
theorem letGo_touches (s : State) : Touches [.slc, .tch, .dbi] s (letGo s) :=
  (deactivate_touches _).comp (enterOff_touches _)
theorem enterCarrying_touches (s : State) : Touches [.slc, .tch, .dbi] s (enterCarrying s) := by
  unfold enterCarrying
  extract_lets s1
  have h1 : Touches [.tch] s s1 := queueTerminal_touches _ _
  exact (h1.comp (Touches.slc s1 _) (cs := [.slc, .tch])).comp (announce_touches _ _)
theorem enterDraining_touches (s : State) : Touches [.slc, .tch, .dbi] s (enterDraining s) := by
  unfold enterDraining
  extract_lets s1
  have h1 : Touches [.tch] s s1 := queueTerminal_touches _ _
  exact (h1.comp (Touches.slc s1 _) (cs := [.slc, .tch])).comp (announce_touches _ _)
theorem linkDrained_touches (s : State) : Touches [.slc, .tch, .dbi] s (linkDrained s) :=
  ((deactivate_touches _).comp (announce_touches _ _) (cs := [.slc, .tch, .dbi])).comp (enterOff_touches _)
theorem evaluateStandby_touches (s : State) : Touches [.slc, .tch, .dbi] s (evaluateStandby s) :=
  .ite _ (.ite _ (letGo_touches _) (.ite _ (enterCarrying_touches _) (.refl _ _))) (.refl _ _)
theorem evaluate_touches (s : State) : Touches [.slc, .tch, .dbi] s (evaluate s) := by
  unfold evaluate; split
  · split
    · exact .ite _ (activate_touches _) (.refl _ _)
    · exact .ite _ (.refl _ _) (letGo_touches _)
    · exact .ite _ (.refl _ _) (letGo_touches _)
    · exact evaluateStandby_touches _
    all_goals exact .refl _ _
  · exact .refl _ _
theorem evaluateGate_touches (s : State) : Touches [.slc, .rch] s (evaluateGate s) :=
  .ite _ (.refl _ _) ((Touches.slc s _).comp (queueRadio_touches _ _))
theorem updateRatingLink_touches (link : Nat) (s : State) :
    Touches [.slc, .sub, .bsd, .rch] s (updateRatingLink link s) :=
  .ite _ (.refl _ _) ((Touches.slc s _).comp (ratingEvent_touches _ _ _ _))
theorem takeShoreHold_touches (hold : Bool) (s : State) : Touches [.slc] s (takeShoreHold hold s) := .slc s _
theorem offerCarrier_touches (new : Carrier) (hold : Bool) (s : State) :
    Touches [.sub, .bsd, .slc, .tch, .dbi, .rch] s (offerCarrier new hold s) := by
  unfold offerCarrier
  extract_lets chosen
  refine .ite _ (.ite _ ((takeShoreHold_touches _ _).comp (evaluateGate_touches _)) (.refl _ _)) ?_
  have h1 : Touches [.slc] s { s with slc := { s.slc with view := some chosen } } := .slc _ _
  have h2 := h1.comp (updateRatingLink_touches chosen.link _) (cs := [.slc, .sub, .bsd, .rch])
  have h3 := h2.comp (takeShoreHold_touches hold _) (cs := [.slc, .sub, .bsd, .rch])
  have h4 := h3.comp (evaluateGate_touches _) (cs := [.slc, .sub, .bsd, .rch])
  exact h4.comp (evaluate_touches _)
theorem clearView_touches (s : State) : Touches [.slc, .tch, .dbi, .rch] s (clearView s) := by
  have h1 : Touches [.slc] s { s with slc := { s.slc with view := none, shoreHold := false } } := .slc _ _
  exact (h1.comp (evaluateGate_touches _) (cs := [.slc, .rch])).comp (evaluate_touches _)
theorem clearViewOf_touches (p : Nat) (s : State) : Touches [.slc, .tch, .dbi, .rch] s (clearViewOf p s) :=
  .ite _ (clearView_touches _) (.refl _ _)
theorem hearCarrying_touches (c : Carrier) (hold : Bool) (s : State) :
    Touches [.sub, .bsd, .slc, .tch, .dbi, .rch] s (hearCarrying c hold s) :=
  (offerCarrier_touches _ _ _).comp (bs := [.slc, .tch, .dbi]) (.ite _ (enterDraining_touches _) (.refl _ _))
theorem takeLink_touches (n : Nat) (m : LinkMsg) (s : State) :
    Touches [.sub, .bsd, .slc, .tch, .dbi, .rch] s (takeLink n m s) := by
  unfold takeLink; split
  · exact hearCarrying_touches _ _ _
  · exact (clearViewOf_touches _ _).mono
  · exact (clearViewOf_touches _ _).mono
theorem takeBeaconLink_touches (n : Nat) (m : BeaconMsg) (s : State) :
    Touches [.sub, .bsd, .slc, .tch, .dbi, .rch] s (takeBeaconLink n m s) :=
  .ite _ (hearCarrying_touches _ _ _) (clearViewOf_touches _ _).mono
theorem failActivated_touches (s : State) : Touches [.slc, .tch, .dbi] s (failActivated s) :=
  .ite _ (enterFailed_touches _) (.refl _ _)
theorem takeQuality_touches (score : Nat) (s : State) : Touches [.slc, .tch, .dbi] s (takeQuality score s) := by
  unfold takeQuality; split
  · extract_lets run _ s1
    have h1 : Touches [.slc] s s1 := .slc _ _
    exact .ite _ (.ite _ ((h1.comp (Touches.slc s1 _) (cs := [.slc])).comp (evaluateStandby_touches _)) h1.mono)
      (Touches.slc s _).mono
  · extract_lets _ s1
    have h1 : Touches [.slc] s s1 := .slc _ _
    exact .ite _ (.ite _ (h1.comp (enterFailed_touches _)) h1.mono) (Touches.slc s _).mono
  · exact .refl _ _
theorem takeTerminalHold_touches (asserted : Bool) (s : State) :
    Touches [.slc, .dbi] s (takeTerminalHold asserted s) := by
  unfold takeTerminalHold
  extract_lets _ s1
  have h1 : Touches [.slc] s s1 := .slc _ _
  exact .ite _ (.refl _ _) (.ite _ (h1.comp (announce_touches _ _)) h1.mono)

/-! ## Roster and coverage -/

theorem addCover_touches (p : Nat) (s : State) : Touches [.prc, .rch] s (addCover p s) :=
  (Touches.prc s _).comp (queueRadio_touches _ _)
theorem removeCover_touches (p : Nat) (s : State) : Touches [.prc, .rch] s (removeCover p s) :=
  (Touches.prc s _).comp (queueRadio_touches _ _)
theorem emptyCover_touches (s : State) : Touches [.prc, .rch] s (emptyCover s) := by
  unfold emptyCover
  extract_lets s1
  have h1 : Touches [.rch] s s1 := .foldl _ (fun _ _ => queueRadio_touches _ _) _ _
  exact h1.comp (Touches.prc s1 _)
theorem coverFailed_touches (s : State) : Touches [.prc, .rch] s (coverFailed s) :=
  .foldl _ (fun _ _ => .ite _ (addCover_touches _ _) (.refl _ _)) _ _
theorem coverDecision_touches (e : Peer) (b : Bool) (s : State) : Touches [.prc, .rch] s (coverDecision e b s) :=
  .ite _ (.refl _ _) (.ite _ (.ite _ (Touches.prc s _).mono (.ite _ (.refl _ _)
    (.ite _ (Touches.prc s _).mono (removeCover_touches _ _)))) (.ite _ (addCover_touches _ _) (.refl _ _)))
theorem changePeer_touches (old new : Peer) (v b : Bool) (s : State) :
    Touches [.prc, .slc, .tch, .dbi, .rch] s (changePeer old new v b s) := by
  unfold changePeer
  extract_lets s1 s2 s3
  have h1 : Touches [.prc] s s1 := setPeer_touches _ _
  have h2 : Touches [.slc, .tch, .dbi, .rch] s1 s2 := .ite _ (clearViewOf_touches _ _) (.refl _ _)
  have h3 : Touches [.slc, .tch, .dbi] s2 s3 := .ite _ (evaluateStandby_touches _) (.refl _ _)
  have h := (h1.comp h2 (cs := [.prc, .slc, .tch, .dbi, .rch])).comp h3 (cs := [.prc, .slc, .tch, .dbi, .rch])
  exact h.comp (bs := [.prc, .rch]) (.ite _ (coverDecision_touches _ _ _) (.refl _ _))
theorem heardFrom_touches (n : Nat) (m : Option BeaconMsg) (s : State) :
    Touches [.prc, .slc, .tch, .dbi, .rch] s (heardFrom n m s) := by
  unfold heardFrom; split
  · exact .refl _ _
  · split
    · exact .refl _ _
    · exact changePeer_touches _ _ _ _ _
theorem peerQuiet_touches (p : Nat) (s : State) : Touches [.prc, .slc, .tch, .dbi, .rch] s (peerQuiet p s) := by
  unfold peerQuiet; split
  · exact .refl _ _
  · exact .ite _ (changePeer_touches _ _ _ _ _) (.refl _ _)
theorem peerLost_touches (p : Nat) (s : State) : Touches [.prc, .slc, .tch, .dbi, .rch] s (peerLost p s) := by
  unfold peerLost; split
  · exact .refl _ _
  · exact .ite _ (changePeer_touches _ _ _ _ _) (.refl _ _)
theorem enterDormant_touches (s : State) : Touches [.sub, .hov, .bsd, .prc, .rch] s (enterDormant s) := by
  unfold enterDormant
  extract_lets s1 s2 _ s3 s4
  have h1 : Touches [.sub, .hov, .bsd, .prc, .rch] s s1 := (setServing_touches _ _).comp (sweep_touches _ _ _)
  have h2 : Touches [.prc, .rch] s1 s2 := emptyCover_touches _
  have h3 : Touches [.prc] s2 s3 := .prc _ _
  have h4 : Touches [.rch] s3 s4 := queueRadio_touches _ _
  have h := (((h1.comp h2 (cs := [.sub, .hov, .bsd, .prc, .rch])).comp h3 (cs := [.sub, .hov, .bsd, .prc, .rch])).comp h4
    (cs := [.sub, .hov, .bsd, .prc, .rch]))
  exact h.comp (Touches.prc s4 _)
theorem enterDark_touches (s : State) : Touches [.prc, .rch] s (enterDark s) := by
  unfold enterDark
  extract_lets s1
  have h1 : Touches [.prc, .rch] s s1 := (setServing_touches _ _).comp (emptyCover_touches _)
  exact h1.comp (Touches.prc s1 _)
theorem chooseState_touches (s : State) : Touches [.prc] s (chooseState s) := .ite _ (.prc s _) (.prc s _)
theorem coverIfServing_touches (s : State) : Touches [.prc, .rch] s (coverIfServing s) :=
  .ite _ (coverFailed_touches _) (.refl _ _)
theorem wake_touches (s : State) : Touches [.prc, .rch] s (wake s) := by
  unfold wake
  extract_lets s1 _ s2
  have h1 : Touches [.rch] s s1 := (queueRadio_touches _ _).comp (queueRadio_touches _ _)
  have h2 : Touches [.prc] s1 s2 := .prc _ _
  have h := (h1.comp h2 (cs := [.prc, .rch])).comp (chooseState_touches _) (cs := [.prc, .rch])
  exact h.comp (coverIfServing_touches _)
theorem silenceChanged_touches (silent : Bool) (s : State) :
    Touches [.rtk, .sub, .hov, .bsd, .prc, .rch] s (silenceChanged silent s) := by
  unfold silenceChanged
  extract_lets _ s1
  have h1 : Touches [.rtk] s s1 := .rtk _ _
  refine h1.comp (bs := [.sub, .hov, .bsd, .prc, .rch]) ?_
  split <;> split
  · exact enterDormant_touches _
  · exact enterDormant_touches _
  · exact (Touches.prc s1 _).mono
  · exact .refl _ _
  · exact .ite _ (wake_touches _).mono (Touches.prc s1 _).mono
  all_goals exact .refl _ _
theorem dwellExpired_touches (s : State) : Touches [.prc, .rch] s (dwellExpired s) :=
  .ite _ (.ite _ (wake_touches _) (Touches.prc s _).mono) (.refl _ _)
theorem beaconAt_touches (s : State) : Touches [.sub, .bsd, .dbi, .rch] s (beaconAt s) :=
  (offerBeacon_touches _).comp (intervalChecks_touches _)
theorem leaveStarting_touches (s : State) :
    Touches [.sub, .hov, .bsd, .slc, .prc, .dbi, .rch, .tch] s (leaveStarting s) := by
  unfold leaveStarting
  extract_lets _ s1 s2 s3 s4 s5
  have h1 : Touches [.prc] s s1 := .prc _ _
  have h2 : Touches [.sub, .hov, .bsd, .prc, .rch] s1 s2 :=
    .ite _ (enterDormant_touches _) ((queueRadio_touches _ _).comp (chooseState_touches _))
  have h3 : Touches [.rch] s2 s3 := queueRadio_touches _ _
  have h4 : Touches [.rch] s3 s4 := queueRadio_touches _ _
  have h5 : Touches [.prc, .sub, .bsd, .dbi, .rch] s4 s5 := (Touches.prc s4 _).comp (beaconAt_touches _)
  have h := (((h1.comp h2 (cs := [.sub, .hov, .bsd, .prc, .rch])).comp h3 (cs := [.sub, .hov, .bsd, .prc, .rch])).comp h4
    (cs := [.sub, .hov, .bsd, .prc, .rch])).comp h5 (cs := [.sub, .hov, .bsd, .prc, .dbi, .rch])
  exact (h.comp (evaluate_touches _) (cs := [.sub, .hov, .bsd, .slc, .prc, .dbi, .rch, .tch])).comp
    (coverIfServing_touches _)
theorem takeHealth_touches (s : State) : Touches [.sub, .hov, .bsd, .prc, .rch] s (takeHealth s) := by
  unfold takeHealth
  extract_lets _ s1
  have h1 : Touches [.prc] s s1 := .prc _ _
  refine .ite _ (h1.comp (bs := [.sub, .hov, .bsd, .prc, .rch]) ?_) h1.mono
  unfold returnFromDark
  extract_lets _ s2
  have h2 : Touches [.prc] s1 s2 := .prc _ _
  exact .ite _ (h2.comp (enterDormant_touches _))
    ((h2.comp (setServing_touches _ _) (cs := [.prc])).comp (coverFailed_touches _))
theorem takeHold_touches (s : State) : Touches [.prc] s (takeHold s) := .ite _ (.prc s _) (.prc s _)
theorem deadlinePassed_touches (s : State) : Touches [.prc, .rch] s (deadlinePassed s) := by
  unfold deadlinePassed
  extract_lets _ s1
  have h1 : Touches [.prc] s s1 := .prc _ _
  exact .ite _ (.ite _ (h1.comp (enterDark_touches _)) h1.mono) (.refl _ _)
theorem radioLost_touches (s : State) : Touches [.prc, .rch] s (radioLost s) :=
  .ite _ (enterDark_touches _) (.refl _ _)
theorem orphanExpired_touches (s : State) : Touches [.prc, .sub, .hov, .bsd, .rch] s (orphanExpired s) :=
  .ite _ ((Touches.prc s _).comp (sweep_touches _ _ _)) (.refl _ _)

/-! ## Route, handover and tables -/

theorem changeZone_touches (zone : Nat) (s : State) : Touches [.rtk, .sub, .hov, .bsd, .rch] s (changeZone zone s) := by
  unfold changeZone
  extract_lets _ s1
  have h1 : Touches [.rtk] s s1 := .rtk _ _
  have h2 := h1.comp (ratingEvent_touches .zone s.rtk.zone s1.slc.ratingLink s1) (cs := [.rtk, .sub, .bsd, .rch])
  have h3 : Touches [.rtk, .sub, .bsd, .rch] s (sendIdentity (ratingEvent .zone s.rtk.zone s1.slc.ratingLink s1)) :=
    h2.comp (queueRadio_touches _ _)
  exact h3.comp (recheckAll_touches _)
theorem handPlan_touches (plan next : Nat) (s : State) : Touches [.rtk, .slc, .tch, .dbi] s (handPlan plan next s) :=
  (Touches.rtk s _).comp (evaluate_touches _)
theorem evaluateSilence_touches (s : State) :
    Touches [.rtk, .sub, .hov, .bsd, .prc, .rch] s (evaluateSilence s) := .ite _ (.refl _ _) (silenceChanged_touches _ _)
theorem legEvaluation_touches (s : State) :
    Touches [.rtk, .sub, .hov, .bsd, .slc, .prc, .dbi, .rch, .tch] s (legEvaluation s) := by
  unfold legEvaluation
  extract_lets s1 s2
  have h1 : Touches [.rtk, .sub, .hov, .bsd, .rch] s s1 := .ite _ (.refl _ _) (changeZone_touches _ _)
  have h2 : Touches [.rtk, .sub, .hov, .bsd, .prc, .rch] s1 s2 := .ite _ (.refl _ _) (silenceChanged_touches _ _)
  have h := h1.comp h2 (cs := [.rtk, .sub, .hov, .bsd, .prc, .rch])
  exact .ite _ h.mono (h.comp (handPlan_touches _ _ _))
theorem moveLeg_touches (leg : Nat) (s : State) :
    Touches [.rtk, .sub, .hov, .bsd, .slc, .prc, .dbi, .rch, .tch] s (moveLeg leg s) :=
  .ite _ (.refl _ _) ((Touches.rtk s _).comp (legEvaluation_touches _))
theorem takeMark_touches (leg : Nat) (s : State) :
    Touches [.rtk, .sub, .hov, .bsd, .slc, .prc, .dbi, .rch, .tch] s (takeMark leg s) :=
  .ite _ (.refl _ _) (.ite _ (moveLeg_touches _ _) (.ite _ (Touches.rtk s _).mono (.ite _ (.refl _ _)
    (.ite _ (moveLeg_touches _ _) ((countSlip_touches _).comp (moveLeg_touches _ _))))))
theorem takeOrigin_touches (s : State) :
    Touches [.rtk, .sub, .hov, .bsd, .slc, .prc, .dbi, .rch, .tch] s (takeOrigin s) :=
  (voyageStart_touches _).comp (legEvaluation_touches _)
theorem releaseEntry_touches (c i : Nat) (s : State) :
    Touches [.sub, .hov, .bsd, .dbi, .rch] s (releaseEntry c i s) := by
  unfold releaseEntry; dsimp only; split
  · exact ((rateSlot_touches _ _ _ _ _ _).comp (finishClose_touches _ _ _ _) (cs := [.sub, .hov, .bsd, .rch])).comp
      (offerRelease_touches _ _)
  · exact (rateSlot_touches _ _ _ _ _ _).mono
theorem takeClaim_touches (c key : Nat) (s : State) : Touches [.sub, .hov, .bsd, .dbi, .rch] s (takeClaim c key s) := by
  unfold takeClaim; split
  · exact .refl _ _
  · split
    · split
      · exact .ite _ (.refl _ _) (releaseEntry_touches _ _ _)
      · exact .refl _ _
    · split
      · exact (offerRelease_touches _ _).comp (forgetDeparture_touches _ _)
      · exact .refl _ _
theorem takeRelease_touches (m : ReleaseMsg) (s : State) : Touches [.sub, .hov, .rch] s (takeRelease m s) := by
  unfold takeRelease; split
  · exact .refl _ _
  · split
    · exact (countStale_touches _).mono
    · refine .ite _ ?_ (countStale_touches _).mono
      unfold mergeInto; split
      · exact .ite _ ((setSlot_touches _ _ _).comp (queueRadio_touches _ _)) (setSlot_touches _ _ _).mono
      · exact .refl _ _
theorem endWindow_touches (n : Nat) (s : State) : Touches [.tbl] s (endWindow n s) := by
  unfold endWindow; split
  · exact .refl _ _
  · exact .ite _ (setWindow_touches _ _) (.refl _ _)
theorem hear_touches (n : Nat) (s : State) : Touches [.prc, .slc, .tch, .dbi, .rch, .tbl] s (hear n s) :=
  (heardFrom_touches _ _ _).comp (endWindow_touches _ _)
theorem takeTableOpen_touches (n : Nat) (m : WindowMsg) (s : State) : Touches [.tbl] s (takeTableOpen n m s) := by
  unfold takeTableOpen; split
  · exact .tbl s _
  · exact .ite _ (setWindow_touches _ _) (.tbl s _)

/-! ## Restarts -/

theorem restartSlc_touches (s : State) : Touches [.slc, .tch, .dbi] s (restartSlc s) := by
  unfold restartSlc
  extract_lets found _ s1 s2
  have h1 : Touches [.slc] s s1 := .slc _ _
  have h2 : Touches [.slc, .tch, .dbi] s1 s2 := (deactivate_touches _).comp (announce_touches _ _)
  have h := h1.comp h2 (cs := [.slc, .tch, .dbi])
  exact .ite _ (.ite _ (h.comp (activate_touches _)) h) h1.mono
theorem restartPrc_touches (s : State) : Touches [.prc, .rch] s (restartPrc s) := by
  unfold restartPrc
  extract_lets s1
  have h1 : Touches [.prc, .rch] s s1 := (emptyCover_touches _).comp (queueRadio_touches _ _)
  exact h1.comp (Touches.prc s1 _)

end Sys2Proof.Machine
end

