-- ==== Sys2Proof/Laws/PerInstr.lean ====
section
/-! SUPPORT. The family OperandBounds: what well-formedness says of a command's station numbers and key, one lemma for each
command. -/

-- One theorem after another: all at once take more threads than the check's memory holds.
set_option Elab.async false

namespace Sys2Proof.Laws.OperandBounds

/-- The station a command names as its sender or as the peer it concerns. -/
def stationOf : Instr → Option Nat
  | .powerOn _ => none
  | .restartCold sender _ _ => some sender
  | .restartWarm sender _ _ => some sender
  | .restartPin _ => none
  | .waypoint sender _ => some sender
  | .waypointOrigin sender => some sender
  | .claimHeard sender _ => some sender
  | .releaseHeard sender _ => some sender
  | .linkCarryHeard sender _ _ => some sender
  | .linkDrainHeard sender _ _ => some sender
  | .linkDownHeard sender _ _ _ => some sender
  | .beaconHeard sender _ => some sender
  | .tableOpen sender _ => some sender
  | .tableData sender _ => some sender
  | .drainRequest sender _ => some sender
  | .query sender _ => some sender
  | .billHeard sender => some sender
  | .drainEndHeard sender => some sender
  | .reportHeard sender => some sender
  | .frameReceiveError _ => none
  | .frameStart => none
  | .arbitrationLost => none
  | .lineLost => none
  | .frameSent _ => none
  | .beaconTime => none
  | .listenPeriodEnd => none
  | .dwellExpiry => none
  | .slipFlagExpiry => none
  | .departureExpiry => none
  | .peerQuiet peer => some peer
  | .peerLost peer => some peer
  | .returnHoldExpiry peer => some peer
  | .healthDeadlinePassed => none
  | .orphanTimerExpiry => none
  | .settleTimerExpiry => none
  | .drainTimerExpiry => none
  | .retryTimerExpiry => none
  | .radioSilenceExpiry => none
  | .terminalSilenceExpiry => none
  | .channelBreak _ => none
  | .channelMessageError _ _ => none
  | .channelOverrun _ => none
  | .attach _ _ _ => none
  | .detach _ => none
  | .usage _ _ _ => none
  | .health => none
  | .hold => none
  | .statusUp => none
  | .statusDown => none
  | .statusIdle => none
  | .quality _ => none
  | .radioHoldLineAsserted => none
  | .radioHoldLineReleased => none
  | .terminalHoldLineChange _ => none
  | .directiveSent _ => none
  | .restartIgnored sender _ => some sender
  | .malformedLinkFrame sender => some sender
  | .markHoldAfterRestartEnd _ => none

/-- The handset key a command carries. -/
def keyOf : Instr → Option Nat
  | .powerOn _ => none
  | .restartCold _ _ _ => none
  | .restartWarm _ _ _ => none
  | .restartPin _ => none
  | .waypoint _ _ => none
  | .waypointOrigin _ => none
  | .claimHeard _ key => key
  | .releaseHeard _ msg => msg.map ReleaseMsg.key
  | .linkCarryHeard _ _ _ => none
  | .linkDrainHeard _ _ _ => none
  | .linkDownHeard _ _ _ _ => none
  | .beaconHeard _ _ => none
  | .tableOpen _ _ => none
  | .tableData _ _ => none
  | .drainRequest _ _ => none
  | .query _ _ => none
  | .billHeard _ => none
  | .drainEndHeard _ => none
  | .reportHeard _ => none
  | .frameReceiveError _ => none
  | .frameStart => none
  | .arbitrationLost => none
  | .lineLost => none
  | .frameSent _ => none
  | .beaconTime => none
  | .listenPeriodEnd => none
  | .dwellExpiry => none
  | .slipFlagExpiry => none
  | .departureExpiry => none
  | .peerQuiet _ => none
  | .peerLost _ => none
  | .returnHoldExpiry _ => none
  | .healthDeadlinePassed => none
  | .orphanTimerExpiry => none
  | .settleTimerExpiry => none
  | .drainTimerExpiry => none
  | .retryTimerExpiry => none
  | .radioSilenceExpiry => none
  | .terminalSilenceExpiry => none
  | .channelBreak _ => none
  | .channelMessageError _ _ => none
  | .channelOverrun _ => none
  | .attach key _ _ => some key
  | .detach key => some key
  | .usage key _ _ => some key
  | .health => none
  | .hold => none
  | .statusUp => none
  | .statusDown => none
  | .statusIdle => none
  | .quality _ => none
  | .radioHoldLineAsserted => none
  | .radioHoldLineReleased => none
  | .terminalHoldLineChange _ => none
  | .directiveSent _ => none
  | .restartIgnored _ _ => none
  | .malformedLinkFrame _ => none
  | .markHoldAfterRestartEnd _ => none

/-- A command that a port can bring names a station of 1 to 31 where it names one, and a key of 40 bits where it carries
one (0.7.5, Table 12.1). -/
def Statement (i : Instr) : Prop :=
  i.wf = true → (∀ n, stationOf i = some n → 1 ≤ n ∧ n ≤ 31) ∧ (∀ k, keyOf i = some k → k < 2 ^ 40)

theorem powerOn (pins : Pins) : Statement (.powerOn pins) := by
  simp [Statement, stationOf, keyOf]

theorem restartCold (sender : Nat) (target : Nat) (board : Board) : Statement (.restartCold sender target board) := by
  simp [Statement, Instr.wf, senderOk, stationOf, keyOf] <;> omega

theorem restartWarm (sender : Nat) (target : Nat) (board : Board) : Statement (.restartWarm sender target board) := by
  simp [Statement, Instr.wf, senderOk, stationOf, keyOf] <;> omega

theorem restartPin (board : Board) : Statement (.restartPin board) := by
  simp [Statement, stationOf, keyOf]

theorem waypoint (sender : Nat) (leg : Option Nat) : Statement (.waypoint sender leg) := by
  simp [Statement, Instr.wf, senderOk, stationOf, keyOf] <;> omega

theorem waypointOrigin (sender : Nat) : Statement (.waypointOrigin sender) := by
  simp [Statement, Instr.wf, senderOk, stationOf, keyOf] <;> omega

theorem claimHeard (sender : Nat) (key : Option Nat) : Statement (.claimHeard sender key) := by
  cases key <;> simp [Statement, Instr.wf, senderOk, fits, stationOf, keyOf] <;> omega

theorem releaseHeard (sender : Nat) (msg : Option ReleaseMsg) : Statement (.releaseHeard sender msg) := by
  cases msg <;> simp [Statement, Instr.wf, ReleaseMsg.wf, senderOk, fits, stationOf, keyOf] <;> omega

theorem linkCarryHeard (sender : Nat) (link : Nat) (hold : Bool) : Statement (.linkCarryHeard sender link hold) := by
  simp [Statement, Instr.wf, senderOk, stationOf, keyOf] <;> omega

theorem linkDrainHeard (sender : Nat) (link : Nat) (hold : Bool) : Statement (.linkDrainHeard sender link hold) := by
  simp [Statement, Instr.wf, senderOk, stationOf, keyOf] <;> omega

theorem linkDownHeard (sender : Nat) (link : Nat) (hold : Bool) (failed : Bool) : Statement (.linkDownHeard sender link hold failed) := by
  simp [Statement, Instr.wf, senderOk, stationOf, keyOf] <;> omega

theorem beaconHeard (sender : Nat) (msg : Option BeaconMsg) : Statement (.beaconHeard sender msg) := by
  simp [Statement, Instr.wf, senderOk, stationOf, keyOf] <;> omega

theorem tableOpen (sender : Nat) (msg : Option WindowMsg) : Statement (.tableOpen sender msg) := by
  simp [Statement, Instr.wf, senderOk, stationOf, keyOf] <;> omega

theorem tableData (sender : Nat) (row : List Byte) : Statement (.tableData sender row) := by
  simp [Statement, Instr.wf, senderOk, stationOf, keyOf] <;> omega

theorem drainRequest (sender : Nat) (msg : Option (Nat × Nat)) : Statement (.drainRequest sender msg) := by
  simp [Statement, Instr.wf, senderOk, stationOf, keyOf] <;> omega

theorem query (sender : Nat) (target : Option Nat) : Statement (.query sender target) := by
  simp [Statement, Instr.wf, senderOk, stationOf, keyOf] <;> omega

theorem billHeard (sender : Nat) : Statement (.billHeard sender) := by
  simp [Statement, Instr.wf, senderOk, stationOf, keyOf] <;> omega

theorem drainEndHeard (sender : Nat) : Statement (.drainEndHeard sender) := by
  simp [Statement, Instr.wf, senderOk, stationOf, keyOf] <;> omega

theorem reportHeard (sender : Nat) : Statement (.reportHeard sender) := by
  simp [Statement, Instr.wf, senderOk, stationOf, keyOf] <;> omega

theorem frameReceiveError (check : RxCheck) : Statement (.frameReceiveError check) := by
  simp [Statement, stationOf, keyOf]

theorem frameStart : Statement (.frameStart) := by
  simp [Statement, stationOf, keyOf]

theorem arbitrationLost : Statement (.arbitrationLost) := by
  simp [Statement, stationOf, keyOf]

theorem lineLost : Statement (.lineLost) := by
  simp [Statement, stationOf, keyOf]

theorem frameSent (disturbed : Option RxCheck) : Statement (.frameSent disturbed) := by
  simp [Statement, stationOf, keyOf]

theorem beaconTime : Statement (.beaconTime) := by
  simp [Statement, stationOf, keyOf]

theorem listenPeriodEnd : Statement (.listenPeriodEnd) := by
  simp [Statement, stationOf, keyOf]

theorem dwellExpiry : Statement (.dwellExpiry) := by
  simp [Statement, stationOf, keyOf]

theorem slipFlagExpiry : Statement (.slipFlagExpiry) := by
  simp [Statement, stationOf, keyOf]

theorem departureExpiry : Statement (.departureExpiry) := by
  simp [Statement, stationOf, keyOf]

theorem peerQuiet (peer : Nat) : Statement (.peerQuiet peer) := by
  simp [Statement, Instr.wf, senderOk, stationOf, keyOf] <;> omega

theorem peerLost (peer : Nat) : Statement (.peerLost peer) := by
  simp [Statement, Instr.wf, senderOk, stationOf, keyOf] <;> omega

theorem returnHoldExpiry (peer : Nat) : Statement (.returnHoldExpiry peer) := by
  simp [Statement, Instr.wf, senderOk, stationOf, keyOf] <;> omega

theorem healthDeadlinePassed : Statement (.healthDeadlinePassed) := by
  simp [Statement, stationOf, keyOf]

theorem orphanTimerExpiry : Statement (.orphanTimerExpiry) := by
  simp [Statement, stationOf, keyOf]

theorem settleTimerExpiry : Statement (.settleTimerExpiry) := by
  simp [Statement, stationOf, keyOf]

theorem drainTimerExpiry : Statement (.drainTimerExpiry) := by
  simp [Statement, stationOf, keyOf]

theorem retryTimerExpiry : Statement (.retryTimerExpiry) := by
  simp [Statement, stationOf, keyOf]

theorem radioSilenceExpiry : Statement (.radioSilenceExpiry) := by
  simp [Statement, stationOf, keyOf]

theorem terminalSilenceExpiry : Statement (.terminalSilenceExpiry) := by
  simp [Statement, stationOf, keyOf]

theorem channelBreak (channel : Channel) : Statement (.channelBreak channel) := by
  simp [Statement, stationOf, keyOf]

theorem channelMessageError (channel : Channel) (error : MessageError) : Statement (.channelMessageError channel error) := by
  simp [Statement, stationOf, keyOf]

theorem channelOverrun (channel : Channel) : Statement (.channelOverrun channel) := by
  simp [Statement, stationOf, keyOf]

theorem attach (key : Nat) (home : Nat) (services : Services) : Statement (.attach key home services) := by
  simp [Statement, Instr.wf, fits, stationOf, keyOf] <;> omega

theorem detach (key : Nat) : Statement (.detach key) := by
  simp [Statement, Instr.wf, fits, stationOf, keyOf] <;> omega

theorem usage (key : Nat) (data : Nat) (voice : Nat) : Statement (.usage key data voice) := by
  simp [Statement, Instr.wf, fits, stationOf, keyOf] <;> omega

theorem health : Statement (.health) := by
  simp [Statement, stationOf, keyOf]

theorem hold : Statement (.hold) := by
  simp [Statement, stationOf, keyOf]

theorem statusUp : Statement (.statusUp) := by
  simp [Statement, stationOf, keyOf]

theorem statusDown : Statement (.statusDown) := by
  simp [Statement, stationOf, keyOf]

theorem statusIdle : Statement (.statusIdle) := by
  simp [Statement, stationOf, keyOf]

theorem quality (score : Nat) : Statement (.quality score) := by
  simp [Statement, stationOf, keyOf]

theorem radioHoldLineAsserted : Statement (.radioHoldLineAsserted) := by
  simp [Statement, stationOf, keyOf]

theorem radioHoldLineReleased : Statement (.radioHoldLineReleased) := by
  simp [Statement, stationOf, keyOf]

theorem terminalHoldLineChange (asserted : Bool) : Statement (.terminalHoldLineChange asserted) := by
  simp [Statement, stationOf, keyOf]

theorem directiveSent (channel : Channel) : Statement (.directiveSent channel) := by
  simp [Statement, stationOf, keyOf]

theorem restartIgnored (sender : Nat) (msg : Option (Nat × Nat)) : Statement (.restartIgnored sender msg) := by
  simp [Statement, Instr.wf, senderOk, stationOf, keyOf] <;> omega

theorem malformedLinkFrame (sender : Nat) : Statement (.malformedLinkFrame sender) := by
  simp [Statement, Instr.wf, senderOk, stationOf, keyOf] <;> omega

theorem markHoldAfterRestartEnd (channel : Channel) : Statement (.markHoldAfterRestartEnd channel) := by
  simp [Statement, stationOf, keyOf]

end Sys2Proof.Laws.OperandBounds
end

