-- ==== Sys2Proof/Laws/Slots.lean ====
section
/-! SUPPORT. What the shared operations on slots can do, said once: the lookups, the queuing of a directive, the rating of a
slot, the offering of a record, a close, and a sweep. -/

-- One theorem after another: all at once take more threads than the check's memory holds.
set_option Elab.async false

namespace Sys2Proof.Machine

/-! ## Lookups -/

theorem State.slot_eq_getElem (s : State) (i : Nat) (h : i < s.sub.slots.length) : s.slot i = s.sub.slots[i] := by
  simp [State.slot, List.getD_eq_getElem?_getD, h]

/-- A key found open is the key of the entry in that slot, which is of the table. -/
theorem State.findOpen_some {s : State} {key i : Nat} (h : s.findOpen key = some i) :
    i < s.sub.slots.length ∧ ∃ e, s.slot i = .opened e ∧ e.key = key := by
  obtain ⟨hi, hp, -⟩ := List.findIdx?_eq_some_iff_getElem.1 h
  refine ⟨hi, ?_⟩
  rw [s.slot_eq_getElem i hi]
  cases hx : s.sub.slots[i] with
  | opened e => exact ⟨e, rfl, by simpa [hx, Slot.opensKey] using hp⟩
  | free => simp [hx, Slot.opensKey] at hp
  | closing r => simp [hx, Slot.opensKey] at hp

/-- A key not found is open nowhere. -/
theorem State.findOpen_none {s : State} {key : Nat} (h : s.findOpen key = none) {i : Nat} {e : Entry}
    (hs : s.slot i = .opened e) : e.key ≠ key := by
  have hi : i < s.sub.slots.length := s.lt_of_slot i (by simp [hs])
  have hm : Slot.opened e ∈ s.sub.slots := by
    rw [← hs, s.slot_eq_getElem i hi]; exact List.getElem_mem hi
  simpa [Slot.opensKey] using List.findIdx?_eq_none_iff.1 h _ hm

/-- The slot of an admission is FREE, and no lower one is (R4). -/
theorem State.firstFree_some {s : State} {i : Nat} (h : s.firstFree = some i) :
    i < s.sub.slots.length ∧ s.slot i = .free ∧ ∀ j, j < i → (s.slot j).isFree = false := by
  obtain ⟨hi, hp, hl⟩ := List.findIdx?_eq_some_iff_getElem.1 h
  refine ⟨hi, ?_, fun j hj => ?_⟩
  · rw [s.slot_eq_getElem i hi]
    cases hx : s.sub.slots[i] <;> simp_all [Slot.isFree]
  · rw [s.slot_eq_getElem j (hj.trans hi)]
    simpa using hl j hj

/-! ## Directives (R181) -/

/-- A directive joins the tail of a radio queue with room; nothing is dropped. -/
theorem queueRadio_room {s : State} (d : RadioDirective) (h : s.rch.queue.length < Config.radioPlaces) :
    (queueRadio d s).rch.queue = s.rch.queue ++ [d] ∧ (queueRadio d s).rch.drops = s.rch.drops ∧
      (queueRadio d s).radioFault = s.radioFault := by
  simp [Chan.enqueue, Nat.not_le.2 h]

/-- A directive to a full radio queue is dropped and counted, and the radio-fault flag is set. -/
theorem queueRadio_full {s : State} (d : RadioDirective) (h : Config.radioPlaces ≤ s.rch.queue.length) :
    (queueRadio d s).rch = { s.rch with drops := satInc Config.maxCount s.rch.drops } ∧
      (queueRadio d s).radioFault = true := by
  simp [Chan.enqueue, h]

/-! ## Announcements (R168, R170) -/

/-- A LINK offered to a part that queues frames enters an empty queue, takes the place of the LINK waiting off the line with
its deferral and age, or waits beside the one on the line, in the place of any that waits there. -/
theorem offerLink_cases (m : LinkMsg) {s : State} (h : s.listenOnly = false) :
    (s.dbi.link = none ∧ offerLink m s = { s with dbi := { s.dbi with link := some ⟨m, 0, s.timebase⟩ } }) ∨
      (∃ w, s.dbi.link = some w ∧ s.dbi.onLine ≠ some .link ∧
        offerLink m s = { s with dbi := { s.dbi with link := some { w with frame := m } } }) ∨
      (∃ w, s.dbi.link = some w ∧ s.dbi.onLine = some .link ∧
        (s.dbi.linkBeside = none ∧
            offerLink m s = { s with dbi := { s.dbi with linkBeside := some ⟨m, 0, s.timebase⟩ } } ∨
          ∃ b, s.dbi.linkBeside = some b ∧
            offerLink m s = { s with dbi := { s.dbi with linkBeside := some { b with frame := m } } })) := by
  unfold offerLink
  rw [if_neg (by simp [h])]
  cases hl : s.dbi.link with
  | none => exact .inl ⟨rfl, rfl⟩
  | some w =>
    by_cases ho : s.dbi.onLine = some .link
    · refine .inr (.inr ⟨w, rfl, ho, ?_⟩)
      cases hb : s.dbi.linkBeside with
      | none => exact .inl ⟨rfl, by simp [ho, State.enter]⟩
      | some b => exact .inr ⟨b, rfl, by simp [ho]⟩
    · exact .inr (.inl ⟨w, rfl, ho, by simp [ho]⟩)

/-! ## Rating and records -/

/-- A rating puts the rated entry into its slot and leaves the others. -/
theorem rateSlot_slot {s : State} {i : Nat} {e : Entry} (final quiet : Bool) (zone link : Nat)
    (h : s.slot i = .opened e) :
    (rateSlot final quiet zone link i s).slot i = .opened (e.rate final (s.prices zone link e.partner)) ∧
      ∀ j, j ≠ i → (rateSlot final quiet zone link i s).slot j = s.slot j := by
  have hi : i < s.sub.slots.length := s.lt_of_slot i (by simp [h])
  unfold rateSlot
  simp only [h]
  split
  · exact ⟨by simp [State.slot_setSlot_self _ _ _ hi], fun j hj => by simp [hj.symm]⟩
  · exact ⟨by simp [State.slot_setSlot_self _ _ _ hi], fun j hj => by simp [hj.symm]⟩

/-- A rating moves no entry in the orders. -/
theorem rateSlot_orders (final quiet : Bool) (zone link i : Nat) (s : State) :
    (rateSlot final quiet zone link i s).sub.attachOrder = s.sub.attachOrder ∧
      (rateSlot final quiet zone link i s).sub.closingOrder = s.sub.closingOrder ∧
      (rateSlot final quiet zone link i s).sub.slots.length = s.sub.slots.length := by
  unfold rateSlot
  split
  · dsimp only
    split <;> simp
  · exact ⟨rfl, rfl, rfl⟩

/-- A final record is taken and its slot FREE, or it waits in the slot, CLOSING, at the tail of the closing order (R17). -/
theorem offerFinal_cases (r : Record) (i : Nat) (s : State) :
    (s.takesFinal = true ∧ offerFinal r i s = (storeRecord r s).setSlot i .free) ∨
      (s.takesFinal = false ∧ offerFinal r i s =
        { s.setSlot i (.closing r) with sub := { (s.setSlot i (.closing r)).sub with
            closingOrder := s.sub.closingOrder ++ [i] } }) := by
  unfold offerFinal
  cases h : s.takesFinal <;> simp

/-! ## Closing -/

/-- The end of a close: the slot is no longer open, the others are as before, the entry has left the attach order, and the
closing order has at most the slot more at its tail. -/
theorem finishClose_orders {s : State} {i : Nat} {e : Entry} (cause : Cause) (quiet : Bool) (h : s.slot i = .opened e) :
    ((finishClose cause quiet i s).slot i).isOpen = false ∧
      (∀ j, j ≠ i → (finishClose cause quiet i s).slot j = s.slot j) ∧
      (finishClose cause quiet i s).sub.attachOrder = s.sub.attachOrder.erase i ∧
      s.sub.closingOrder <+: (finishClose cause quiet i s).sub.closingOrder := by
  have hi : i < s.sub.slots.length := s.lt_of_slot i (by simp [h])
  unfold finishClose
  split
  · extract_lets r _ s1 s2 s3
    have hsub : s3.sub = { s.sub with attachOrder := s.sub.attachOrder.erase i } := by
      simp only [s3, s2, s1]; split <;> split <;> rfl
    have hlen : i < s3.sub.slots.length := by rw [hsub]; exact hi
    have hslot : ∀ j, s3.slot j = s.slot j := fun j => by simp [State.slot, hsub]
    split
    · rcases offerFinal_cases r i s3 with ⟨-, he⟩ | ⟨-, he⟩ <;> rw [he]
      · refine ⟨?_, fun j hj => ?_, ?_, ?_⟩
        · rw [State.slot_setSlot_self _ _ _ (by simpa using hlen)]; rfl
        · simp [hj.symm, hslot]
        · simp [hsub]
        · simp [hsub]
      · refine ⟨?_, fun j hj => ?_, ?_, ?_⟩
        · have : (s3.setSlot i (.closing r)).slot i = .closing r := State.slot_setSlot_self _ _ _ hlen
          simp only [State.slot] at this ⊢; rw [this]; rfl
        · have : (s3.setSlot i (.closing r)).slot j = s.slot j := by simp [hj.symm, hslot]
          simpa only [State.slot] using this
        · simp [hsub]
        · simp [hsub]
    · refine ⟨?_, fun j hj => ?_, ?_, ?_⟩
      · rw [State.slot_setSlot_self _ _ _ hlen]; rfl
      · simp [hj.symm, hslot]
      · simp [hsub]
      · simp [hsub]
  · rename_i hx; exact absurd h (hx e)

/-- A close (R16): as its end, the rating before it moving nothing. -/
theorem closeSlot_orders {s : State} {i : Nat} {e : Entry} (cause : Cause) (quiet : Bool) (h : s.slot i = .opened e) :
    ((closeSlot cause quiet i s).slot i).isOpen = false ∧
      (∀ j, j ≠ i → (closeSlot cause quiet i s).slot j = s.slot j) ∧
      (closeSlot cause quiet i s).sub.attachOrder = s.sub.attachOrder.erase i ∧
      s.sub.closingOrder <+: (closeSlot cause quiet i s).sub.closingOrder := by
  obtain ⟨hr, hrest⟩ := rateSlot_slot true quiet s.rtk.zone s.slc.ratingLink h
  obtain ⟨ha, hc, -⟩ := rateSlot_orders true quiet s.rtk.zone s.slc.ratingLink i s
  obtain ⟨h1, h2, h3, h4⟩ := finishClose_orders cause quiet hr
  exact ⟨h1, fun j hj => (h2 j hj).trans (hrest j hj), h3.trans (by rw [ha]), hc ▸ h4⟩

/-- A close of a slot that is not open does nothing. -/
theorem closeSlot_not_open {s : State} {i : Nat} (cause : Cause) (quiet : Bool) (h : ∀ e, s.slot i ≠ .opened e) :
    closeSlot cause quiet i s = s := by
  have hr : rateSlot true quiet s.rtk.zone s.slc.ratingLink i s = s := by unfold rateSlot; split <;> simp_all
  unfold closeSlot finishClose
  rw [hr]
  split <;> simp_all

/-- A sweep of different open slots closes them all and leaves the others (R20). -/
theorem closeAll_orders (cause : Cause) (quiet : Bool) (l : List Nat) (s : State) (hn : l.Nodup)
    (ho : ∀ i ∈ l, (s.slot i).isOpen = true) :
    (∀ i ∈ l, ((closeAll cause quiet l s).slot i).isOpen = false) ∧
      (∀ j, j ∉ l → (closeAll cause quiet l s).slot j = s.slot j) ∧
      (closeAll cause quiet l s).sub.attachOrder = s.sub.attachOrder.diff l ∧
      s.sub.closingOrder <+: (closeAll cause quiet l s).sub.closingOrder := by
  induction l generalizing s with
  | nil => exact ⟨by simp, fun _ _ => rfl, rfl, List.prefix_refl _⟩
  | cons i l ih =>
    obtain ⟨hil, hnl⟩ := List.nodup_cons.1 hn
    obtain ⟨e, he⟩ : ∃ e, s.slot i = .opened e := by
      have := ho i (by simp)
      cases h : s.slot i <;> simp_all [Slot.isOpen]
    obtain ⟨h1, h2, h3, h4⟩ := closeSlot_orders cause quiet he
    have ho' : ∀ j ∈ l, ((closeSlot cause quiet i s).slot j).isOpen = true := fun j hj => by
      rw [h2 j (fun hji => hil (hji ▸ hj))]; exact ho j (by simp [hj])
    obtain ⟨g1, g2, g3, g4⟩ := ih (closeSlot cause quiet i s) hnl ho'
    have hfold : closeAll cause quiet (i :: l) s = closeAll cause quiet l (closeSlot cause quiet i s) := rfl
    rw [hfold]
    refine ⟨fun j hj => ?_, fun j hj => ?_, ?_, h4.trans g4⟩
    · rcases List.mem_cons.1 hj with rfl | hj
      · rw [g2 j hil]; exact h1
      · exact g1 j hj
    · rw [g2 j (fun h => hj (by simp [h])), h2 j (fun h => hj (by simp [h]))]
    · rw [g3, h3, List.diff_cons]

/-- A sweep of every open entry leaves none open (R20). -/
theorem sweep_orders {s : State} (cause : Cause) (quiet : Bool) (h : OrdersLaw s) :
    (sweep cause quiet s).sub.attachOrder = [] ∧ (∀ i, ((sweep cause quiet s).slot i).isOpen = false) ∧
      s.sub.closingOrder <+: (sweep cause quiet s).sub.closingOrder := by
  obtain ⟨-, hn, -, ho, -⟩ := h
  obtain ⟨h1, h2, h3, h4⟩ := closeAll_orders cause quiet s.sub.attachOrder s hn (fun i hi => (ho i).1 hi)
  refine ⟨by simp [sweep, h3, List.eq_nil_iff_forall_not_mem, hn.mem_sdiff_iff], fun i => ?_, h4⟩
  by_cases hi : i ∈ s.sub.attachOrder
  · exact h1 i hi
  · have := h2 i hi
    rw [sweep, this]
    exact Bool.eq_false_iff.2 (fun hx => hi ((ho i).2 hx))

end Sys2Proof.Machine
end

