-- ==== Sys2Proof/Tests/Slice0.lean ====
section
/-! SUPPORT. The model's own tests: ill-formed commands refused by each check of WellFormed, single commands on small states
with results worked out from the spec, and for each statement that has hypotheses a state and operands that meet them
(`test_meets_<statement>`). -/

-- One theorem after another: all at once take more threads than the check's memory holds.
set_option Elab.async false

namespace Sys2Proof.Tests

open Sys2Proof Sys2Proof.Machine

/-! ## WellFormed: what each check refuses -/

theorem test_wf_sender_zero : (Instr.query 0 none).wf = false := by decide
theorem test_wf_sender_above_31 : (Instr.billHeard 32).wf = false := by decide
theorem test_wf_peer_above_31 : (Instr.peerLost 32).wf = false := by decide
theorem test_wf_straps_station : (Instr.restartPin ⟨{ resetStraps with station := 32 }, none⟩).wf = false := by decide
theorem test_wf_straps_link : (Instr.restartPin ⟨{ resetStraps with linkId := 8 }, none⟩).wf = false := by decide
theorem test_wf_memory_length : (Instr.powerOn ⟨⟨resetStraps, some [0#8]⟩, false, false⟩).wf = false := by decide
theorem test_wf_restart_target : (Instr.restartCold 1 256 resetBoard).wf = false := by decide
theorem test_wf_leg : (Instr.waypoint 1 (some 256)).wf = false := by decide
theorem test_wf_claim_key : (Instr.claimHeard 1 (some (2 ^ 40))).wf = false := by decide
theorem test_wf_release_claimant : (Instr.releaseHeard 1 (some ⟨1, 256, 0, false, 0⟩)).wf = false := by decide
theorem test_wf_release_charge : (Instr.releaseHeard 1 (some ⟨1, 2, 2 ^ 24, false, 0⟩)).wf = false := by decide
theorem test_wf_link_id : (Instr.linkCarryHeard 1 8 false).wf = false := by decide
theorem test_wf_beacon_cover : (Instr.beaconHeard 1 (some ⟨.serving, false, false, false, false, false, 0, 0, 0, 0, .none,
    [1, 2, 3, 4, 5]⟩)).wf = false := by decide
theorem test_wf_beacon_cover_zero : (Instr.beaconHeard 1 (some ⟨.serving, false, false, false, false, false, 0, 0, 0, 0,
    .none, [0]⟩)).wf = false := by decide
theorem test_wf_window_row : (Instr.tableOpen 1 (some ⟨1, 0, 256⟩)).wf = false := by decide
theorem test_wf_drain_count : (Instr.drainRequest 1 (some (5, 256))).wf = false := by decide
theorem test_wf_query_target : (Instr.query 1 (some 256)).wf = false := by decide
theorem test_wf_home_code : (Instr.attach 1 (2 ^ 24) ⟨true, true⟩).wf = false := by decide
theorem test_wf_detach_key : (Instr.detach (2 ^ 40)).wf = false := by decide
theorem test_wf_usage_data : (Instr.usage 1 65536 0).wf = false := by decide
theorem test_wf_usage_voice : (Instr.usage 1 0 65536).wf = false := by decide
theorem test_wf_quality : (Instr.quality 64).wf = false := by decide
theorem test_wf_restart_kind : (Instr.restartIgnored 1 (some (0, 256))).wf = false := by decide
theorem test_wf_accepts : (Instr.attach (2 ^ 40 - 1) (2 ^ 24 - 1) ⟨true, true⟩).wf = true ∧
    (Instr.waypoint 31 (some 255)).wf = true ∧ (Instr.usage 1 65535 65535).wf = true := by decide

/-! ## A small station

Station 5, a terminal station on link 3, with neighbours 7 and 9, SERVING in zone 2 on a route of four legs whose third leg is
silent, under the prices of section 2.8.2 and with the entry of section 2.8.3 open in slot 0. -/

/-- The command's next state. -/
def after (c : Instr) (s : State) : State :=
  match exec c s with
  | .next t => t
  | .fault _ => s
  | .refused _ => s

def straps5 : Straps := ⟨5, true, 3, .kbit500, .bit57600, false, false⟩

/-- Station 5 right after power-on, its memory not answering. -/
def fresh : State := powerOnNow ⟨⟨straps5, none⟩, false, false⟩ State.reset

def partner0 : PartnerRow := ⟨0x111, 1, 0xFF#8, ⟨true, true⟩, false, 10000⟩

/-- The station SERVING, with no entry open. -/
def empty : State :=
  { fresh with
    timebase := 5000000
    prc := { fresh.prc with
      serving := .serving, listenUntil := none, nextBeacon := some 5000000, healthDeadline := some 5000100
      roster := resetRoster 5 [7, 9] }
    cfg := { fresh.cfg with neighbours := [7, 9], configFault := false }
    rch := { fresh.rch with up := true, silenceFrom := some 4999000, queue := [], markHold := false }
    tch := { fresh.tch with up := true, silenceFrom := some 4999000, markHold := false }
    rtk := { fresh.rtk with zone := 2, planLink := 3, nextPlanLink := 3 }
    slc := { fresh.slc with view := some ⟨9, 5⟩, gateOpen := true, ratingLink := 5 }
    tbl := { fresh.tbl with
      zones := [0, 0x10, 0x120A05, 0, 0, 0, 0, 0]
      tariffs := List.replicate 9 .zero ++ [⟨2500, 10, 900, 30⟩] ++ List.replicate 22 .zero
      partners := partner0 :: List.replicate 63 .zero
      route := ⟨4, 5⟩
      legs := [⟨2, 3⟩, ⟨2, 3⟩, ⟨1, 5⟩, ⟨2, 3⟩] ++ List.replicate 44 .zero
      links := [.zero, .zero, .zero, ⟨.terrestrial, 64, 40, 20, 3, 500⟩, .zero, ⟨.satellite, 160, 0, 0, 2, 0⟩, .zero, .zero]
      silences := [⟨2, 2, true⟩, .zero, .zero, .zero] } }

/-- The entry of section 2.8.3 at its start, its interval 120 s old. -/
def entry0 : Entry :=
  ⟨42, .active, 0, ⟨true, true⟩, 0, 10000, 0, 0, 0, 0, 4880000, 0, 0, 0, 0, 0, 0, false, false, false, 2, 5, true⟩

/-- The station with that entry in slot 0. -/
def holding (e : Entry) (s : State) : State :=
  { s with sub := { s.sub with slots := .opened e :: List.replicate 95 .free, attachOrder := [0] } }

/-- The station with its entry, whose CLAIM still waits. -/
def station : State :=
  { holding entry0 empty with
    hov := { empty.hov with pendingClaims := [42] }
    dbi := { empty.dbi with class1 := [⟨.claim 42, 0, 4880000⟩] } }

/-- The station after its CLAIM has been sent. -/
def quiet : State := holding { entry0 with claimPending := false } empty

def record0 : Record := ⟨77, 5, 0, .detach, 2, 5, 10, 30, 5, 5, false, false, false, 0, 0, 0⟩

/-- The station with records in its store. -/
def stored (n : Nat) (s : State) : State :=
  { s with bsd := { s.bsd with store := (List.range n).map (fun i => ⟨i, record0⟩), nextSequence := n } }

/-- The station in this phase, under its own link 3. -/
def inPhase (p : Phase) (s : State) : State :=
  { s with slc := { s.slc with phase := p, activated := activatedPhase p } }

def beacon0 : BeaconMsg := ⟨.serving, false, false, false, false, false, 3, 0, 0, 4, .off, []⟩

/-! ## Power-on, restarts and the wire -/

theorem test_power_on_gives_reset : powerOnNow resetPins State.reset = State.reset := by decide +kernel
theorem test_memory_record : readMemory 5 (some [7#8, 0#8, 9#8, 7#8, 0x11#8, 0#8, 0#8, 0xBD#8]) = ([7, 9, 7], false) := by
  decide
theorem test_memory_own_number : readMemory 5 (some [5#8, 0#8, 0#8, 0#8, 0#8, 0#8, 0#8, 0xA0#8]) = ([], true) := by decide
theorem test_warm_restart_closes_dormant :
    ((after (.restartPin ⟨straps5, none⟩) (holding { entry0 with data := 8 } empty)).bsd.store.map
      (fun r => (r.record.cause, r.record.key))) = [(.dormant, 42)] := by decide +kernel
/-- Table 9.1. -/
theorem test_checkword : checkwordFrom 0 [0x80#8, 0x01#8, 0x01#8, 0x01#8, 0x40#8] = 0x4204#16 := by decide
/-- Paragraph 12.2.1. -/
theorem test_identity_checkbyte : (radioDirectiveBytes (.identity 0x120A05)).getLast? = some 0x29#8 := by decide
/-- A QUERY of station 1 to station 5, its header 6·2^13 + 3·2^11 + 1·2^6 + 0x30 by Table 12.1. -/
theorem test_query_frame : frameBody .query 0 1 [5#8] = [0xD8#8, 0x70#8, 0x01#8, 0x05#8] := by decide
theorem test_query_frame_read : decodeFrame 5 resetBoard (frameBytes .query 0 1 [5#8]) = .query 1 (some 5) := by
  decide +kernel
theorem test_radio_message_health : messageCommand .radio 4 [] = .health := by decide
/-- R175: the byte 0x53, of four ones, least significant bit first, in each of the four modes. -/
theorem test_character_levels :
    (⟨.bit19200, false, false⟩ : CharMode).levels 0x53#8 =
      [false, true, true, false, false, true, false, true, false, true] ∧
    (⟨.bit57600, true, true⟩ : CharMode).levels 0x53#8 =
      [false, true, true, false, false, true, false, true, false, false, true, true] ∧
    (⟨.bit57600, true, false⟩ : CharMode).levels 0x51#8 =
      [false, true, false, false, false, true, false, true, false, true, true] := by decide
/-- R176: one wrong bit of a character is a parity error where parity is on, and another byte where it is off. -/
theorem test_character_errors :
    (⟨.bit57600, true, false⟩ : CharMode).read
      [false, true, true, false, false, true, false, true, false, true, true] = .badParity ∧
    (⟨.bit57600, false, false⟩ : CharMode).read [false, true, false, false, false, true, false, true, false, true] =
      .char 0x51#8 ∧
    (⟨.bit57600, false, false⟩ : CharMode).read [false, true, false, false, false, true, false, true, false, false] =
      .badFraming := by decide
/-- R176: the good message, the error, the overrun and the break each leave a receiver hunting. -/
theorem test_receiver_hunts :
    let s : State := { station with rch := { station.rch with receiver := .taking [0x7E#8] } }
    (after .health s).rch.receiver = .hunting ∧ (after (.channelMessageError .radio .gap) s).rch.receiver = .hunting ∧
      (after (.channelOverrun .radio) s).rch.receiver = .hunting ∧
      (after (.channelBreak .radio) s).rch.receiver = .hunting := by decide +kernel
/-- R176: with parity off a receiver makes no parity error, and its message goes on; with parity on it counts one. -/
theorem test_parity_by_strap :
    let s : State := { station with rch := { station.rch with receiver := .taking [0x7E#8] } }
    let p : State := { s with cfg := { s.cfg with straps := { straps5 with parity := true } } }
    takeCharacter .radio .badParity s = s ∧ (takeCharacter .radio .badParity p).rch.errors = 1 ∧
      (takeCharacter .radio .badParity p).rch.receiver = .hunting := by decide +kernel
/-- R163, R189: behind a restart that renumbers the station to 6, a RESTART COLD to station 6 is taken. -/
theorem test_frame_after_a_renumbering_restart :
    let board : Board := ⟨{ straps5 with station := 6 }, none⟩
    let s : State := { station with pending := [.restartPin board], hov := { station.hov with departures := [⟨9, 1, false, 0⟩] } }
    (takeFrame board (frameBytes .restart 0 1 [6#8, 2#8]) s).hov.departures = [] ∧
      (takeFrame board (frameBytes .restart 0 1 [5#8, 2#8]) s).hov.departures.length = 2 := by decide +kernel
theorem test_no_table_bits : decodeTableWord 16 0xFFFF = none ∧ station.withFetchWord 16 1 = station := by decide +kernel

/-! ## One command each -/

theorem test_attach_refused_key_zero : (after (.attach 0 0x111 ⟨true, true⟩) empty).rch.queue = [.refuse 0 .malformed] := by
  decide +kernel
theorem test_attach_admits : (after (.attach 42 0x111 ⟨true, true⟩) empty).rch.queue = [.admitSub 42 ⟨true, true⟩] ∧
    (after (.attach 42 0x111 ⟨true, true⟩) empty).hov.pendingClaims = [42] := by decide +kernel
theorem test_detach_unknown : (after (.detach 43) station).sub = station.sub := by decide +kernel
/-- Sections 2.8.2 and 2.8.3, event 1: 12,713 charged against a cap of 10,000, 24,832 left in the residue. -/
theorem test_usage_crosses_the_cap :
    (after (.usage 42 1537 95) station).slot 0 = .opened { entry0 with
      state := .barred, k := 10000, unratedData := 7, unratedVoice := 5, dataResidue := 24832, data := 1530, voice := 90
      charge := 10000, forgiven := 2713, barredIn := true } ∧
    (after (.usage 42 1537 95) station).rch.queue = [.bar 42] := by decide +kernel
/-- Section 2.8.2, event 2: the final rating charges 61 + 1,125 for the remainders. -/
theorem test_final_rating_sells_the_remainder :
    (({ entry0 with cap := 0, k := 12713, unratedData := 7, unratedVoice := 5, dataResidue := 24832 }).rate true
      ⟨2500, 10, 900, 30, 160⟩).k = 13899 := by decide
theorem test_usage_unknown_key : (after (.usage 43 1 1) station).sub.unknownUsage = 1 := by decide +kernel
theorem test_claim_releases : (after (.claimHeard 9 (some 42)) quiet).dbi.class1.map (fun w => w.frame) =
    [.release ⟨42, 9, 0, false, 0⟩] ∧ (after (.claimHeard 9 (some 42)) quiet).rch.queue = [.releaseSub 42] := by
  decide +kernel
theorem test_release_merges : ((after (.releaseHeard 9 (some ⟨42, 5, 700, false, 0⟩)) quiet).entry? 0).map Entry.k =
    some 700 := by decide +kernel
theorem test_release_old_voyage : (after (.releaseHeard 9 (some ⟨42, 5, 700, false, 1⟩)) quiet).hov.staleReleases = 1 := by
  decide +kernel
theorem test_mark_next_leg : (after (.waypoint 1 (some 255)) station).rtk.leg = 1 := by decide +kernel
theorem test_mark_slip : (after (.waypoint 1 (some 3)) station).rtk.slipCount = 1 ∧
    (after (.waypoint 1 (some 3)) station).rtk.slipUntil = some 5060000 := by decide +kernel
theorem test_mark_bad : (after (.waypoint 1 (some 4)) station).rtk.badMarks = 1 := by decide +kernel
theorem test_origin_mark : (after (.waypointOrigin 1) { station with rtk := { station.rtk with voyage := 255 } }).rtk.voyage
    = 0 := by decide +kernel
theorem test_table_data_clamps :
    (after (.tableData 1 [0x0B#8, 0x00#8, 0x00#8]) { station with tbl := { station.tbl with
      window := some ⟨.silence, 0, 3, 3, 1⟩ } }).tbl.window = some ⟨.silence, 0, 3, 0, 1⟩ := by decide +kernel
theorem test_table_open_refused : (after (.tableOpen 1 (some ⟨1, 0, 8⟩)) station).tbl.refusedOpens = 1 := by decide +kernel
theorem test_drain_request_empty : (after (.drainRequest 1 (some (5, 4))) station).bsd.drain = .ending 0 none := by
  decide +kernel
theorem test_drain_request_count : (after (.drainRequest 1 (some (5, 17))) (stored 1 station)).bsd.drain =
    .running 16 0 := by decide +kernel
theorem test_query_two_wait : (after (.query 1 (some 5)) { station with dbi := { station.dbi with
    reports := [⟨station.buildReport, 0, 0⟩, ⟨station.buildReport, 0, 0⟩] } }).dbi.reportDrops = 1 := by decide +kernel
theorem test_receive_error : (after (.frameReceiveError .checkword) station).dbi.checkwordErrors = 1 := by decide +kernel
theorem test_frame_start_class1 : (after .frameStart station).dbi.onLine = some .class1 := by decide +kernel
theorem test_arbitration_lost : ((after .arbitrationLost { station with dbi := { station.dbi with
    onLine := some .class1, class1 := [⟨.claim 42, 3, 0⟩] } }).dbi.class1.map (fun w => w.deferral)) = [3] := by
  decide +kernel
theorem test_line_lost_counts : (after .lineLost { station with dbi := { station.dbi with
    onLine := some .class1 } }).dbi.transmitErrors = 1 := by decide +kernel
theorem test_claim_sent : (after (.frameSent none) { station with dbi := { station.dbi with
    onLine := some .class1 } }).hov.pendingClaims = [] := by decide +kernel
theorem test_beacon_time : (after .beaconTime station).prc.nextBeacon = some 5000250 ∧
    (after .beaconTime station).dbi.beacon = some ⟨none, 0, 5000000⟩ := by decide +kernel
theorem test_listen_end_dark : (after .listenPeriodEnd { fresh with timebase := 2000 }).prc.serving = .dark := by
  decide +kernel
theorem test_peer_lost_covered : (after (.peerLost 7) { empty with prc := { empty.prc with roster :=
    [⟨7, .quiet, some 4998000, none, true⟩] } }).rch.queue = [.cover 7 true] := by decide +kernel
theorem test_beacon_dark_covered : (after (.beaconHeard 7 (some { beacon0 with serving := .dark })) empty).prc.cover =
    [⟨7, none⟩] := by decide +kernel
theorem test_carry_opens_view : (after (.linkCarryHeard 9 5 true) empty).slc.gateOpen = false := by decide +kernel
theorem test_link_down_clears : (after (.linkDownHeard 9 5 false true) empty).slc.view = none ∧
    (after (.linkDownHeard 9 5 false true) empty).slc.ratingLink = 5 := by decide +kernel
theorem test_settle_zero_score : (after (.quality 40) (inPhase .probing { empty with slc := { empty.slc with
    runCount := 1 } })).slc.runCount = 2 := by decide +kernel
theorem test_quality_in_step : (after (.quality 40) (inPhase .probing { empty with slc := { empty.slc with
    runCount := 2 } })).slc.phase = .carrying := by decide +kernel
theorem test_status_down_fails : (after .statusDown (inPhase .carrying empty)).slc.phase = .failed ∧
    (after .statusDown (inPhase .carrying empty)).tch.queue = [.deactivate] := by decide +kernel
theorem test_hold_twice : (after .hold { empty with prc := { empty.prc with holdUsed := true } }).prc.refusedHolds = 1 := by
  decide +kernel
theorem test_deadline_passed : (after .healthDeadlinePassed { empty with timebase := 5000100 }).prc.serving = .dark := by
  decide +kernel
theorem test_radio_break_under_hold : (after (.channelBreak .radio) { empty with prc := { empty.prc with
    deadlineByHold := true } }).prc.serving = .serving := by decide +kernel
theorem test_hold_line : (after (.attach 0 0 ⟨true, true⟩) (after .radioHoldLineAsserted empty)).rch.sending = false := by
  decide +kernel
theorem test_terminal_hold_line : (after (.terminalHoldLineChange true) (inPhase .carrying empty)).dbi.link.map
    (fun w => w.frame) = some ⟨3, true, .carry⟩ := by decide +kernel

/-! ## States and operands that meet the hypotheses of the statements -/

/-- `OrdersLaw` as a check of the 96 slots. -/
def ordersOk (s : State) : Bool :=
  s.sub.slots.length == 96 && decide s.sub.attachOrder.Nodup && decide s.sub.closingOrder.Nodup &&
    (List.range 96).all (fun i => s.sub.attachOrder.contains i == (s.slot i).isOpen &&
      s.sub.closingOrder.contains i == (s.slot i).isClosing) &&
    s.sub.attachOrder.all (fun i => i < 96) && s.sub.closingOrder.all (fun i => i < 96)

theorem ordersLaw_of (s : State) (h : ordersOk s = true) : OrdersLaw s := by
  simp only [ordersOk, Bool.and_eq_true, beq_iff_eq, decide_eq_true_eq, List.all_eq_true, List.mem_range] at h
  obtain ⟨⟨⟨⟨⟨hl, ha⟩, hc⟩, hs⟩, hal⟩, hcl⟩ := h
  have out : ∀ i, 96 ≤ i → s.slot i = .free := fun i hi => by
    simp [State.slot, List.getD_eq_getElem?_getD, hl, hi]
  refine ⟨hl, ha, hc, fun i => ?_, fun i => ?_⟩
  · by_cases hi : i < 96
    · rw [← (hs i hi).1]; simp
    · simp only [out i (Nat.le_of_not_lt hi), Slot.isOpen]
      exact ⟨fun h => absurd (hal i h) hi, fun h => by simp at h⟩
  · by_cases hi : i < 96
    · rw [← (hs i hi).2]; simp
    · simp only [out i (Nat.le_of_not_lt hi), Slot.isClosing]
      exact ⟨fun h => absurd (hcl i h) hi, fun h => by simp at h⟩

theorem orders_station : OrdersLaw station := ordersLaw_of _ (by decide +kernel)
theorem orders_quiet : OrdersLaw quiet := ordersLaw_of _ (by decide +kernel)

theorem test_meets_StepTakesTheFrontCommand : station.pending = [] := by decide +kernel

theorem test_meets_EveryCommandEndsInANextState : ∀ p, Instr.health ≠ .powerOn p := by simp

/-- Each of the three clauses: a mark, a table row and a strap that change. -/
theorem test_meets_OnlyTheseCommandsReachVoyageTablesAndStraps :
    (after (.waypointOrigin 9) station).rtk.voyage ≠ station.rtk.voyage ∧
    (after (.tableData 9 [0#8, 0#8, 1#8]) { station with tbl := { station.tbl with
      window := some ⟨.zone, 0, 0, 0, 9⟩ } }).tbl.zones ≠ station.tbl.zones ∧
    (after (.restartPin resetBoard) station).cfg.straps ≠ station.cfg.straps := by decide +kernel

theorem test_meets_NeighbourListComesFromTheMemory :
    (after (.restartPin ⟨straps5, some [7#8, 0#8, 9#8, 31#8, 0#8, 0#8, 0#8, 0xB4#8]⟩) station).cfg.neighbours = [7, 9, 31] ∧
    (after (.restartPin ⟨straps5, some [7#8, 0#8, 9#8, 32#8, 0#8, 0#8, 0#8, 0x8B#8]⟩) station).cfg.configFault = true := by
  decide +kernel

/-- Own number, every station, another station; a kind of neither 1 nor 2 at its boundary. -/
theorem test_meets_RestartFramesActByTargetAndKind :
    (hear 9 station).own = 5 ∧ (7 ≠ (hear 9 station).own ∧ 7 ≠ 0) ∧ (3 ≠ 1 ∧ 3 ≠ 2) ∧ (0 ≠ 1 ∧ 0 ≠ 2) := by
  decide +kernel

/-- An idle, a running and an ending drain, with an entry open and fifteen members covered. -/
theorem test_meets_WarmRestartKeepsAndCloses :
    OrdersLaw station ∧ station.bsd.drain = .idle ∧
    ({ station with prc := { station.prc with cover := List.replicate 15 ⟨7, none⟩ } } : State).prc.cover.length ≤ 15 ∧
    (∃ left, ({ station with bsd := { station.bsd with drain := .running 3 2 } } : State).bsd.drain = .running left 2) ∧
    (∃ w, ({ station with bsd := { station.bsd with drain := .ending 2 none } } : State).bsd.drain = .ending 2 w) ∧
    straps5.station ≠ 0 :=
  ⟨orders_station, by decide +kernel, by decide +kernel, ⟨3, rfl⟩, ⟨none, rfl⟩, by decide⟩

/-- No terminal station; a terminal station found in OFF; past OFF with its link not wanted, and wanted. -/
theorem test_meets_WarmRestartLetsTheLinkGo :
    ¬(resetStraps.terminalPresent = true ∧ resetStraps.station ≠ 0) ∧
    (straps5.terminalPresent = true ∧ straps5.station ≠ 0) ∧ empty.slc.phase = .off ∧
    ((inPhase .standby empty).slc.phase ≠ .off ∧ (inPhase .standby empty).slc.phase ≠ .none) ∧
    (straps5.linkId ≠ 0 ∧ (straps5.linkId = empty.rtk.planLink ∨ straps5.linkId = empty.rtk.nextPlanLink)) ∧
    ¬(({ straps5 with linkId := 4 } : Straps).linkId ≠ 0 ∧
      (({ straps5 with linkId := 4 } : Straps).linkId = empty.rtk.planLink ∨
        ({ straps5 with linkId := 4 } : Straps).linkId = empty.rtk.nextPlanLink)) ∧
    (empty.tbl.links.getD straps5.linkId LinkRow.zero).settleTime ≠ 0 := by decide +kernel

theorem test_meets_ColdRestartClearsEveryBlock :
    (5 = (hear 9 (inPhase .standby station)).own) ∧ (hear 9 (inPhase .standby station)).prc.cover.length ≤ 15 ∧
    (straps5.terminalPresent = true ∧ straps5.station ≠ 0) ∧
    (hear 9 (inPhase .standby station)).slc.phase ≠ .off ∧ (hear 9 (inPhase .standby station)).slc.phase ≠ .none ∧
    ¬(resetStraps.terminalPresent = true ∧ resetStraps.station ≠ 0) := by decide +kernel

/-- The station's own number, and another station of the roster, at the roster's end. -/
theorem test_meets_HeardFrameMarksItsSenderPresent :
    5 = station.own ∧ 31 ≠ station.own ∧ station.peer? 31 = some ⟨31, .unheard, none, none, false⟩ := by decide +kernel

/-- The station with peer 7, a neighbour, in this state, last heard 2000 ms ago, and this cover set. -/
def withPeer (st : PeerState) (cover : List CoverMember) : State :=
  { empty with prc := { empty.prc with roster := [⟨7, st, some 4998000, none, true⟩], cover := cover } }

/-- A PRESENT neighbour; a covered LOST one, no hold running, with no BEACON copied and with one that showed DARK. -/
theorem test_meets_HeardFrameOfANeighbour :
    (withPeer .present []).peer? 7 = some ⟨7, .present, some 4998000, none, true⟩ ∧
    (let s := withPeer .lost [⟨7, none⟩]
     let e : Peer := ⟨7, .lost, some 4998000, none, true⟩
     7 ≠ s.own ∧ s.peer? 7 = some e ∧ e.state = .lost ∧ e.neighbour = true ∧ s.covers 7 = true ∧
       (∀ x ∈ s.prc.cover, x.station = 7 → x.holdUntil = none) ∧ e.beacon.all (fun b => b.serving != .dark) = true ∧
       s.rch.queue.length < 16) ∧
    (let e : Peer := ⟨7, .lost, some 4998000, some ⟨.dark, .off, 3, 0⟩, true⟩
     e.beacon = some ⟨.dark, .off, 3, 0⟩ ∧ e.state = .lost) := by decide +kernel

theorem test_meets_ErrorsAndMalformedFramesAreCounted :
    ({ beacon0 with serving := .starting } : BeaconMsg).serving = .starting ∧ empty.isTerminal = true ∧
    fresh.cfg.straps.parity = false ∧ ({ straps5 with parity := true } : Straps).parity = true ∧
    State.reset.isTerminal = false := by decide +kernel

/-- On a route of four legs, at leg 0: no route; a mark past the route's end and at 48; a mark of the current leg; the next
leg by its number and by 255; a slip. -/
theorem test_meets_MarksMoveTheLeg :
    (hear 9 fresh).tbl.route.length = 0 ∧
    ((hear 9 station).tbl.route.length = 4 ∧ (hear 9 station).rtk.leg = 0) ∧
    (4 ≠ 255 ∧ 4 ≤ 4) ∧ (48 ≠ 255 ∧ 48 ≤ 48) ∧ 0 = (hear 9 station).rtk.leg ∧
    1 = ((hear 9 station).rtk.leg + 1) % (hear 9 station).tbl.route.length ∧
    (3 < 48 ∧ 3 < (hear 9 station).tbl.route.length ∧ 3 ≠ (hear 9 station).rtk.leg ∧
      3 ≠ ((hear 9 station).rtk.leg + 1) % (hear 9 station).tbl.route.length) := by decide +kernel

/-- A next leg that implies what is held; one of another zone with no entry open; one that is silent. -/
theorem test_meets_LegEvaluationActsOnWhatDiffers :
    (let u := hear 9 empty
     let v : State := { u with rtk := { u.rtk with leg := 1 } }
     1 = (u.rtk.leg + 1) % u.tbl.route.length ∧ 1 ≠ u.rtk.leg ∧ v.derivedSilent = u.rtk.silent ∧
       v.derivedPlan = u.rtk.planLink ∧ v.derivedZone = u.rtk.zone) ∧
    (let u := hear 9 { empty with rtk := { empty.rtk with zone := 1 } }
     let v : State := { u with rtk := { u.rtk with leg := 1 } }
     v.derivedZone ≠ u.rtk.zone ∧ u.sub.attachOrder = []) ∧
    (let u := hear 9 { quiet with rtk := { quiet.rtk with leg := 1, nextPlanLink := 5 } }
     let v : State := { u with rtk := { u.rtk with leg := 2 } }
     2 = (u.rtk.leg + 1) % u.tbl.route.length ∧ u.rtk.silent = false ∧ v.derivedSilent = true ∧
       u.prc.serving = .serving ∧ ordersOk u = true) := by decide +kernel

theorem test_meets_LegEvaluationPlanPair :
    (let u := hear 9 { empty with rtk := { empty.rtk with nextPlanLink := 5 } }
     let v : State := { u with rtk := { u.rtk with leg := 1 } }
     v.derivedNextPlan = u.rtk.nextPlanLink) ∧
    (let u := hear 9 empty
     let v : State := { u with rtk := { u.rtk with leg := 1 } }
     v.derivedZone = u.rtk.zone ∧ v.derivedSilent = u.rtk.silent ∧ v.derivedNextPlan ≠ u.rtk.nextPlanLink) := by
  decide +kernel

/-- No route; the last leg of four, whose next is leg 0; SILENCE rows at their ends, straight, wrapping, and disabled. -/
theorem test_meets_LegImplies :
    fresh.tbl.route.length = 0 ∧ (empty.tbl.route.length ≠ 0 ∧ (3 + 1) % empty.tbl.route.length = 0) ∧
    (({ empty with rtk := { empty.rtk with leg := 2 } } : State).derivedSilent = true) ∧
    (⟨3, 1, true⟩ : SilenceRow).covers 4 3 = true ∧ (⟨3, 1, true⟩ : SilenceRow).covers 4 1 = true ∧
    (⟨3, 1, true⟩ : SilenceRow).covers 4 2 = false ∧ (⟨2, 2, false⟩ : SilenceRow).covers 4 2 = false ∧
    (⟨0, 4, true⟩ : SilenceRow).covers 4 2 = false := by decide +kernel

/-- The station with its entry, in zone 1 before a leg of zone 2, on the plan pair of that leg. -/
def zoneAhead (e : Entry) : State :=
  { holding e empty with rtk := { empty.rtk with zone := 1, nextPlanLink := 5 } }

/-- A zone change with an open entry: no content; content and the store at 47 and at 48 records; a row that fails. -/
theorem test_meets_LegEvaluationOpenEntries :
    (let u := hear 9 (zoneAhead entry0)
     let v : State := { u with rtk := { u.rtk with leg := 1 } }
     u.tbl.route.length ≠ 0 ∧ 1 ≠ u.rtk.leg ∧ v.derivedSilent = u.rtk.silent ∧ v.derivedZone ≠ u.rtk.zone ∧
       v.derivedPlan = u.rtk.planLink ∧ v.derivedNextPlan = u.rtk.nextPlanLink ∧ ordersOk u = true ∧
       u.rch.queue.length + 2 * u.sub.attachOrder.length < 16 ∧ u.slot 0 = .opened entry0 ∧
       (entry0.rate false (u.prices u.rtk.zone u.slc.ratingLink 0)).hasContent = false ∧
       ({ entry0 with data := 1 }.rate false (u.prices u.rtk.zone u.slc.ratingLink 0)).hasContent = true ∧
       partner0.home ≠ 0 ∧ partner0.suspended = false ∧ partner0.zones.getLsbD v.derivedZone = true) ∧
    (let s := zoneAhead entry0
     let u := hear 9 { s with tbl := { s.tbl with partners := [{ partner0 with zones := 0xFB#8 }] } }
     let v : State := { u with rtk := { u.rtk with leg := 1 } }
     v.derivedZone ≠ u.rtk.zone ∧ u.slot 0 = .opened entry0 ∧
       (u.tbl.partners.getD entry0.partner .zero).zones.getLsbD v.derivedZone = false) ∧
    ((stored 47 station).bsd.store.length + station.sub.attachOrder.length ≤ 48 ∧ station.sub.closingOrder = [] ∧
      48 ≤ (stored 48 station).bsd.store.length) := by decide +kernel

theorem test_meets_OriginMarkStartsAVoyage :
    let u := hear 9 station
    let v : State := { u with rtk := { u.rtk with leg := 0 } }
    ordersOk u = true ∧ v.derivedZone = u.rtk.zone ∧ v.derivedSilent = u.rtk.silent ∧
      v.derivedPlan = u.rtk.planLink ∧ v.derivedNextPlan = u.rtk.nextPlanLink := by decide +kernel

/-- Entries without and with content, one that a rating leaves BARRED, and the store at its limits. -/
theorem test_meets_OriginMarkRecords :
    (let u := hear 9 station
     let v : State := { u with rtk := { u.rtk with leg := 0 } }
     let prices := u.prices u.rtk.zone u.slc.ratingLink 0
     ordersOk u = true ∧ v.derivedZone = u.rtk.zone ∧ v.derivedSilent = u.rtk.silent ∧
       v.derivedPlan = u.rtk.planLink ∧ v.derivedNextPlan = u.rtk.nextPlanLink ∧
       u.slot 0 = .opened entry0 ∧ (u.slot 95).isOpen = false ∧ (entry0.rate false prices).hasContent = false ∧
       ({ entry0 with data := 1 }.rate false prices).hasContent = true ∧
       ({ entry0 with state := .barred }.rate false prices).state = .barred ∧
       u.rch.queue.length + 2 * u.sub.attachOrder.length ≤ 16) ∧
    (let u := hear 9 (stored 47 (holding { entry0 with data := 1 } empty))
     ordersOk u = true ∧ u.bsd.store.length + u.sub.attachOrder.length ≤ 48 ∧ u.sub.closingOrder = []) ∧
    (let u := hear 9 (stored 48 (holding { entry0 with data := 1 } empty))
     ordersOk u = true ∧ 48 ≤ u.bsd.store.length) := by decide +kernel

/-- A slip flag at its instant; a departure 3600 s old; a return hold at its instant. -/
theorem test_meets_FlagsDeparturesAndHoldsExpire :
    ({ empty with rtk := { empty.rtk with slipUntil := some 5000000 } } : State).rtk.slipUntil = some 5000000 ∧
    ({ empty with hov := { empty.hov with departures := [⟨42, 0, false, 1400000⟩] } } : State).hov.departures =
      ⟨42, 0, false, 1400000⟩ :: [] ∧ 3600000 ≤ empty.timebase - 1400000 ∧
    (⟨7, some 5000000⟩ : CoverMember) ∈ [(⟨7, some 5000000⟩ : CoverMember)] ∧ 5000000 ≤ empty.timebase ∧
    empty.rtk.slipUntil = none ∧ empty.hov.departures = [] := by decide +kernel

/-- A DORMANT station whose dwell runs out at this instant. -/
def dormant (wake : Bool) : State :=
  { empty with prc := { empty.prc with serving := .dormant, dwellUntil := some 5000000, pendingWake := wake } }

theorem test_meets_DwellExpiryWakes :
    (dormant true).prc.serving = .dormant ∧ (dormant true).prc.dwellUntil = some 5000000 ∧
    5000000 ≤ (dormant true).timebase ∧ (dormant true).prc.pendingWake = true ∧ (dormant false).prc.pendingWake = false ∧
    (dormant true).prc.healthDeadline ≠ none ∧ (dormant true).rch.up = true ∧
    ({ dormant true with rch := { (dormant true).rch with up := false } } : State).rch.up = false ∧
    (dormant true).rch.queue.length ≤ 14 := by decide +kernel

/-- A DORMANT station at leg 1 before the silent leg 2, and at leg 2 before leg 3, which is not silent, with the zone and
plan pair of the next leg held. -/
def dormantAt (leg : Nat) (silent : Bool) (dwell : Option Nat) : State :=
  { dormant false with
    rtk := { empty.rtk with
      leg := leg, silent := silent, zone := if leg = 1 then 1 else 2, planLink := if leg = 1 then 5 else 3
      nextPlanLink := 3 }
    prc := { (dormant false).prc with dwellUntil := dwell } }

/-- Not silent with the dwell running and with it run, and silent, each under the zone and plan pair held. -/
theorem test_meets_SilenceChangesWhileDormant :
    (let u := hear 9 (dormantAt 2 true (some 5000500))
     let v : State := { u with rtk := { u.rtk with leg := 3 } }
     3 = (u.rtk.leg + 1) % u.tbl.route.length ∧ u.prc.serving = .dormant ∧ v.derivedSilent = false ∧
       u.rtk.silent = true ∧ u.prc.dwellUntil ≠ none ∧ v.derivedZone = u.rtk.zone ∧
       v.derivedPlan = u.rtk.planLink ∧ v.derivedNextPlan = u.rtk.nextPlanLink) ∧
    (let u := hear 9 (dormantAt 2 true none)
     u.prc.serving = .dormant ∧ u.prc.dwellUntil = none ∧ u.prc.healthDeadline ≠ none ∧ u.rch.up = true ∧
       u.rch.queue.length ≤ 14) ∧
    (let u := hear 9 (dormantAt 1 false (some 5000500))
     let v : State := { u with rtk := { u.rtk with leg := 2 } }
     2 = (u.rtk.leg + 1) % u.tbl.route.length ∧ u.prc.serving = .dormant ∧ v.derivedSilent = true ∧
       u.rtk.silent = false ∧ v.derivedZone = u.rtk.zone ∧ v.derivedPlan = u.rtk.planLink ∧
       v.derivedNextPlan = u.rtk.nextPlanLink) := by decide +kernel

theorem test_silence_over_waits_for_the_dwell :
    (after (.waypoint 9 (some 3)) (dormantAt 2 true (some 5000500))).prc.pendingWake = true := by decide +kernel
theorem test_silence_over_after_the_dwell_wakes :
    let t := after (.waypoint 9 (some 3)) (dormantAt 2 true none)
    (t.prc.serving, t.rch.queue.take 2) = (.serving, [.wake, .identity 0x120A05]) := by decide +kernel

/-- A home code in no row, a suspended row, a zone not permitted, no common service, a key that is open, and a station not
SERVING. -/
theorem test_meets_AttachIsRefusedInOrder :
    fresh.prc.serving ≠ .serving ∧ (station.prc.serving = .serving ∧ station.own ≠ 0) ∧
    station.findOpen 42 = some 0 ∧ station.slot 0 = .opened entry0 ∧ station.findOpen 43 = none ∧
    station.findPartner 0x111 = some 0 ∧ (∀ r ∈ station.tbl.partners, r.home ≠ 0x112) ∧
    (let s := { station with tbl := { station.tbl with partners := [{ partner0 with suspended := true }] } }
     (s.tbl.partners.getD 0 .zero).suspended = true) ∧
    (let s := { station with tbl := { station.tbl with partners := [{ partner0 with zones := 0xFB#8 }] } }
     (s.tbl.partners.getD 0 .zero).zones.getLsbD s.rtk.zone = false) ∧
    ((false && partner0.services.data) = false ∧ (false && partner0.services.voice) = false) := by decide +kernel

theorem test_meets_AttachAdmitsANewEntry :
    empty.prc.serving = .serving ∧ empty.own ≠ 0 ∧ empty.findOpen 42 = none ∧ empty.findPartner 0x111 = some 0 ∧
    (empty.tbl.partners.getD 0 .zero).suspended = false ∧
    (empty.tbl.partners.getD 0 .zero).zones.getLsbD empty.rtk.zone = true ∧
    (true && (empty.tbl.partners.getD 0 .zero).services.data) = true ∧ empty.firstFree = some 0 ∧
    empty.hov.pendingClaims.contains 42 = false ∧ empty.dbi.class1.length < 16 ∧ empty.rch.queue.length < 16 := by
  decide +kernel

/-- A table full of entries, the second of them BARRED, keys 1 to 96. -/
def fullTable (barred : Bool) : State :=
  { empty with sub := { empty.sub with
      slots := (List.range 96).map (fun i => .opened { entry0 with
        key := i + 1, claimPending := false
        state := if barred && i == 1 then .barred else .active, k := if barred && i == 1 then 10000 else 0 })
      attachOrder := List.range 96 } }

theorem test_meets_FullTableEvictsTheOldestBarred :
    (fullTable true).firstFree = none ∧ (fullTable true).findOpen 97 = none ∧
    (fullTable true).findPartner 0x111 = some 0 ∧ (fullTable true).sub.attachOrder.find? (fullTable true).isBarred = some 1 ∧
    ((fullTable true).slot 1).isOpen = true ∧ (fullTable true).bsd.store.length < 64 ∧
    (fullTable true).sub.closingOrder = [] ∧ (fullTable true).rch.queue.length ≤ 14 ∧
    (∀ i ∈ (fullTable false).sub.attachOrder, (fullTable false).isBarred i = false) ∧
    64 ≤ (stored 64 (fullTable true)).bsd.store.length := by decide +kernel

theorem test_meets_DetachClosesTheEntry :
    station.findOpen 43 = none ∧ station.findOpen 42 = some 0 ∧ station.slot 0 = .opened entry0 ∧
    ({ entry0 with data := 1 }.rate true (station.prices station.rtk.zone station.slc.ratingLink 0)).hasContent = true ∧
    (entry0.rate true (station.prices station.rtk.zone station.slc.ratingLink 0)).hasContent = false ∧
    (stored 63 station).bsd.store.length < 64 ∧ 64 ≤ (stored 64 station).bsd.store.length ∧
    station.sub.closingOrder = [] ∧
    (let listed : List Departure := (List.range 32).map (fun i => ⟨i + 11, 0, false, 0⟩)
     (listed.filter (fun d => d.key != 42)).length < 32 ∧ 32 ≤ (listed.filter (fun d => d.key != 43)).length) := by
  decide +kernel

/-- An ACTIVE entry on either side of the interim thresholds, a BARRED one, and an interval of exactly 900 s. -/
theorem test_meets_UsageIsMeteredAndRated :
    station.findOpen 43 = none ∧ station.findOpen 42 = some 0 ∧ station.slot 0 = .opened entry0 ∧
    station.timebase - entry0.start < 900000 ∧ entry0.state = .active ∧
    min (entry0.unratedData + 1023) 1048575 < 1024 ∧ 1024 ≤ min (entry0.unratedData + 1024) 1048575 ∧
    (holding { entry0 with state := .barred, k := 10000 } station).slot 0 =
      .opened { entry0 with state := .barred, k := 10000 } ∧
    900000 ≤ station.timebase - ({ entry0 with start := 4100000 } : Entry).start ∧
    (stored 47 station).bsd.store.length ≤ 47 ∧ 48 ≤ (stored 48 station).bsd.store.length := by decide +kernel

theorem test_meets_MeterRatingIsExact : 0 < 10 ∧ 0 < 32768 ∧ 65535 < 2 * 32768 ∧ 31 < 32 ∧ 32 ≤ 32 := by decide

/-- An entry one mu below its cap, one at its cap, and one with no cap. -/
theorem test_meets_ChargeIsHeldToTheCap :
    ({ entry0 with k := 9999 } : Entry).CapLaw ∧ ({ entry0 with k := 10000, state := .barred } : Entry).CapLaw ∧
    ({ entry0 with cap := 0 } : Entry).CapLaw ∧ entry0.charge + 16777215 ≤ 16777215 ∧
    (({ entry0 with k := 9999 } : Entry).applyCharge 1).state = .barred := by
  unfold Entry.CapLaw; decide

/-- A claim of the own number, of an own pending claim, of an unknown key, of a listed key, and of an open entry. -/
theorem test_meets_ClaimsAreAnswered :
    5 = (hear 5 station).own ∧ 9 ≠ (hear 9 station).own ∧ (hear 9 station).own ≠ 0 ∧
    (hear 9 station).findOpen 42 = some 0 ∧ (hear 9 station).slot 0 = .opened entry0 ∧ entry0.claimPending = true ∧
    (hear 9 station).findOpen 43 = none ∧ (hear 9 station).hov.departures.find? (fun d => d.key == 43) = none ∧
    (let u := hear 9 { station with hov := { station.hov with departures := [⟨43, 5, false, 0⟩] } }
     u.hov.departures.find? (fun d => d.key == 43) = some ⟨43, 5, false, 0⟩ ∧ u.dbi.class1.length < 16) ∧
    (hear 9 quiet).slot 0 = .opened { entry0 with claimPending := false } ∧ (hear 9 quiet).rch.queue.length ≤ 14 ∧
    ({ entry0 with data := 1 }.rate true (quiet.prices quiet.rtk.zone quiet.slc.ratingLink 0)).hasContent = true ∧
    quiet.bsd.store.length < 64 ∧ quiet.sub.closingOrder = [] := by decide +kernel

/-- A release to another station, to none, of an unknown key, of another voyage, and ones that do and do not bar. -/
theorem test_meets_ReleaseIsMergedOrStale :
    9 ≠ (hear 9 quiet).own ∧ 5 = (hear 9 quiet).own ∧ (hear 9 quiet).findOpen 43 = none ∧
    1 ≠ (hear 9 quiet).rtk.voyage ∧ (hear 9 quiet).findOpen 42 = some 0 ∧
    (hear 9 quiet).slot 0 = .opened { entry0 with claimPending := false } ∧ 0 = (hear 9 quiet).rtk.voyage ∧
    (entry0.state = .active ∧ entry0.cap ≠ 0 ∧ min (entry0.k + 10000) entry0.cap = entry0.cap) ∧
    min (entry0.k + 9999) entry0.cap ≠ entry0.cap := by decide +kernel

/-- A full class-1 queue: of sixteen CLAIMs, the first on the line, and of sixteen RELEASEs. -/
def fullClass1 (w : Class1) : State :=
  { empty with dbi := { empty.dbi with class1 := List.replicate 16 ⟨w, 0, 0⟩, onLine := some .class1 } }

theorem test_meets_FullClass1QueueDropsClaims :
    (fullClass1 (.claim 42)).own ≠ 0 ∧ (fullClass1 (.claim 42)).dbi.class1.length = 16 ∧
    (fullClass1 (.claim 42)).dbi.class1 = [⟨.claim 42, 0, 0⟩] ++ [] ++ ⟨.claim 42, 0, 0⟩ :: List.replicate 14 ⟨.claim 42, 0, 0⟩ ∧
    [(⟨.claim 42, 0, 0⟩ : Waiting Class1)].length =
      (if (fullClass1 (.claim 42)).dbi.onLine = some .class1 then 1 else 0) ∧
    (fullClass1 (.release ⟨1, 9, 0, false, 0⟩)).dbi.class1 = [⟨.release ⟨1, 9, 0, false, 0⟩, 0, 0⟩] ++
      List.replicate 15 ⟨.release ⟨1, 9, 0, false, 0⟩, 0, 0⟩ := by decide +kernel

/-- Content and none; room at 47 records and none at 48. -/
theorem test_meets_IntervalRecordIsTakenOrDeferred :
    station.slot 0 = .opened entry0 ∧ (holding { entry0 with overrunVoice := 1 } station).slot 0 =
      .opened { entry0 with overrunVoice := 1 } ∧
    ((stored 47 station).bsd.store.length ≤ 47 ∧ (stored 47 station).sub.closingOrder = []) ∧
    ¬(stored 48 station).bsd.store.length ≤ 47 := by decide +kernel

/-- A station in each drain state, its DRAIN-END or BILL waiting or on the line. -/
def draining (d : Drain) (n : Nat) : State :=
  let s := stored n empty
  { s with
    bsd := { s.bsd with drain := d }
    dbi := { s.dbi with
      bill := match d with | .running _ _ => s.bsd.store.head?.map (fun r => ⟨r, 0, 0⟩) | _ => none
      drainEnd := match d with | .ending k _ => some ⟨⟨.countDone, k, 0, 0, 0⟩, 0, 0⟩ | _ => none
      onLine := match d with | .running _ _ => some .bill | .ending _ _ => some .drainEnd | .idle => none } }

theorem test_meets_DrainRequestsActByState :
    7 ≠ (hear 1 empty).own ∧ 5 = (hear 1 empty).own ∧
    ((hear 1 empty).bsd.drain = .idle ∧ (hear 1 empty).bsd.store = []) ∧
    ((hear 1 (stored 1 empty)).bsd.drain = .idle ∧ (hear 1 (stored 1 empty)).bsd.store = ⟨0, record0⟩ :: [] ∧
      (hear 1 (stored 1 empty)).dbi.bill = none) ∧
    ((hear 1 (draining (.running 2 0) 2)).bsd.drain = .running 2 0 ∧
      (hear 1 (draining (.running 2 0) 2)).dbi.bill = some ⟨⟨0, record0⟩, 0, 0⟩) ∧
    (hear 1 (draining (.ending 2 none) 0)).bsd.drain = .ending 2 none ∧
    ((draining (.ending 2 (some 16)) 1).dbi.onLine = some .drainEnd ∧ (draining (.ending 2 (some 16)) 1).dbi.bill = none ∧
      (draining (.ending 2 (some 16)) 1).dbi.drainEnd = some ⟨⟨.countDone, 2, 0, 0, 0⟩, 0, 0⟩ ∧
      (draining (.ending 2 (some 16)) 1).bsd.store = ⟨0, record0⟩ :: []) := by decide +kernel

/-- The last BILL of a count, one that empties the store, one that goes on, and one out of a full store. -/
theorem test_meets_SentBillLeavesTheStoreAndMakesRoom :
    (draining (.running 1 0) 2).own ≠ 0 ∧ (draining (.running 1 0) 2).dbi.onLine = some .bill ∧
    (draining (.running 1 0) 2).dbi.bill = some ⟨⟨0, record0⟩, 0, 0⟩ ∧ (draining (.running 1 0) 2).dbi.drainEnd = none ∧
    (draining (.running 1 0) 2).bsd.store = ⟨0, record0⟩ :: [⟨1, record0⟩] ∧
    (draining (.running 1 0) 2).sub.closingOrder = [] ∧
    (draining (.running 2 0) 1).bsd.store = ⟨0, record0⟩ :: [] ∧ 1 ≤ 1 ∧ 2 ≤ 2 ∧
    (let s := { draining (.running 2 0) 64 with sub := { empty.sub with
       slots := .closing record0 :: List.replicate 95 .free, closingOrder := [0] } }
     s.bsd.store.length = 64 ∧ s.sub.closingOrder = 0 :: [] ∧ s.slot 0 = .closing record0 ∧
       s.bsd.store.head? = some ⟨0, record0⟩) := by decide +kernel

/-- No view, a view of the sender, a view that is outranked, and one that is not, under plan link 3. -/
theorem test_meets_LinkFramesMoveTheView :
    (hear 9 fresh).slc.view = none ∧ (hear 9 empty).slc.view = some ⟨9, 5⟩ ∧
    ((7 : Nat) ≠ 9 ∧ outranks (hear 7 empty).rtk.planLink ⟨7, 3⟩ ⟨9, 5⟩ = true) ∧
    outranks (hear 7 empty).rtk.planLink ⟨7, 6⟩ ⟨9, 5⟩ = false ∧
    (hear 9 empty).slc.gateOpen = true ∧ (hear 9 empty).rch.queue.length < 16 := by decide +kernel

/-- A view that changes under the rating link held, and one to another link with an entry open, without and with content,
room and none. -/
theorem test_meets_LinkFramesMoveTheRatingLink :
    (let u := hear 7 { station with slc := { station.slc with view := none } }
     u.slc.view ≠ some ⟨7, 5⟩ ∧ u.slc.ratingLink = 5) ∧
    (let u := hear 7 station
     u.slc.view ≠ some ⟨7, 3⟩ ∧ u.slc.ratingLink ≠ 3 ∧ outranks u.rtk.planLink ⟨7, 3⟩ ⟨9, 5⟩ = true ∧
       ordersOk u = true ∧ u.slot 0 = .opened entry0 ∧ (u.slot 95).isOpen = false ∧
       (entry0.rate false (u.prices u.rtk.zone u.slc.ratingLink 0)).hasContent = false ∧
       ({ entry0 with data := 1 }.rate false (u.prices u.rtk.zone u.slc.ratingLink 0)).hasContent = true ∧
       u.rch.queue.length + u.sub.attachOrder.length < 16) ∧
    (let u := hear 7 (stored 47 (holding { entry0 with data := 1 } empty))
     ordersOk u = true ∧ u.bsd.store.length + u.sub.attachOrder.length ≤ 48 ∧ u.sub.closingOrder = []) ∧
    48 ≤ (hear 7 (stored 48 (holding { entry0 with data := 1 } empty))).bsd.store.length := by decide +kernel

theorem test_meets_LinkFramesMoveTheViewOfAnother : ∀ c, (hear 7 empty).slc.view = some c → c.station ≠ 7 := by
  have h : (hear 7 empty).slc.view = some ⟨9, 5⟩ := by decide +kernel
  intro c hc
  rw [h] at hc
  cases hc
  decide

/-- Against the station's own link 3, not planned: a planned carrier ranks higher, and one of link 4 does not. -/
theorem test_meets_OutrankedCarrierDrains :
    let u := hear 9 (inPhase .carrying { empty with rtk := { empty.rtk with planLink := 5 } })
    9 ≠ u.own ∧ u.slc.phase = .carrying ∧ outranks u.rtk.planLink ⟨9, 5⟩ ⟨u.own, u.ownLink⟩ = true ∧
      outranks u.rtk.planLink ⟨9, 4⟩ ⟨u.own, u.ownLink⟩ = false ∧ u.tch.queue.length < 4 ∧
      u.own ≠ 0 ∧ u.dbi.onLine ≠ some .link := by decide +kernel

theorem test_meets_OutrankedByABeacon :
    let s := inPhase .carrying { empty with rtk := { empty.rtk with planLink := 5 } }
    let m : BeaconMsg := { beacon0 with phase := .carrying, linkId := 5 }
    9 ≠ s.own ∧ s.slc.phase = .carrying ∧ m.serving ≠ .starting ∧ m.phase = .carrying ∧
      outranks s.rtk.planLink ⟨9, m.linkId⟩ ⟨s.own, s.ownLink⟩ = true ∧
      outranks s.rtk.planLink ⟨9, 4⟩ ⟨s.own, s.ownLink⟩ = false ∧ s.tch.queue.length < 4 ∧
      s.own ≠ 0 ∧ s.dbi.onLine ≠ some .link := by decide +kernel

theorem test_meets_RankingIsATotalOrder :
    ((3 : Nat) = 3 ∧ (5 : Nat) ≠ 3) ∧ ((4 : Nat) = 3 ↔ (5 : Nat) = 3) ∧ (⟨5, 3⟩ : Carrier) ≠ ⟨6, 3⟩ ∧
    outranks 3 ⟨5, 3⟩ ⟨6, 3⟩ = true ∧ outranks 3 ⟨6, 3⟩ ⟨6, 4⟩ = true := by decide

/-- At the thresholds 40 and 20 of the own row, whose run is 3: each way a report counts. -/
theorem test_meets_QualityMovesThePhase :
    empty.isTerminal = true ∧ (empty.tbl.links.getD empty.ownLink .zero) = ⟨.terrestrial, 64, 40, 20, 3, 500⟩ ∧
    (let s := inPhase .settling { empty with slc := { empty.slc with settleAt := some 5000000 } }
     s.slc.phase = .settling ∧ s.slc.settleAt = some 5000000 ∧ 5000000 ≤ s.timebase ∧ s.tch.up = true) ∧
    ((inPhase .probing empty).slc.phase = .probing ∧ 39 < 40 ∧ 40 ≤ 40 ∧
      (inPhase .probing empty).slc.runCount + 1 < max 2 3 ∧ (inPhase .probing empty).slc.runCount < 15) ∧
    (let s := inPhase .probing { empty with slc := { empty.slc with runCount := 2, view := some ⟨9, 3⟩ } }
     max 2 3 ≤ s.slc.runCount + 1 ∧ (inPhase .standby s).wanted = true ∧
       (inPhase .standby s).carryCondition = false) ∧
    ((inPhase .carrying empty).slc.phase = .carrying ∧ 20 ≤ 20 ∧ 19 < 20 ∧ (inPhase .carrying empty).slc.belowFloor < 4 ∧
      4 ≤ (inPhase .carrying { empty with slc := { empty.slc with belowFloor := 4 } }).slc.belowFloor) ∧
    ((inPhase .off empty).slc.phase ≠ .probing ∧ (inPhase .off empty).slc.phase ≠ .carrying) := by decide +kernel

/-- A settle timer at its instant with the terminal channel LOST. -/
theorem test_meets_SettleTimerWithTheTerminalLost :
    let s0 := inPhase .settling empty
    let s : State := { s0 with tch := { s0.tch with up := false }, slc := { s0.slc with settleAt := some 5000000 } }
    s.isTerminal = true ∧ s.slc.phase = .settling ∧ s.slc.settleAt = some 5000000 ∧ 5000000 ≤ s.timebase ∧
      s.tch.up = false ∧ s.tch.queue.length < 4 ∧ s.dbi.link = none := by decide +kernel

/-- Each way the conditions move the phase, under plan link 3, the station's own, or 4. -/
theorem test_meets_QualityMovesThePhaseByCondition :
    empty.isTerminal = true ∧ State.reset.isTerminal = false ∧ empty.ownLink < 8 ∧ empty.tch.queue.length < 4 ∧
    empty.dbi.link = none ∧ empty.tch.up = true ∧ fresh.tch.up = false ∧
    (empty.slc.phase = .off ∧ empty.wanted = true ∧ (empty.tbl.links.getD empty.ownLink LinkRow.zero).settleTime ≠ 0) ∧
    (let s : State := { empty with
       rtk := { empty.rtk with planLink := 5 }, cfg := { empty.cfg with straps := { straps5 with linkId := 5 } } }
     s.slc.phase = .off ∧ s.wanted = true ∧ (s.tbl.links.getD s.ownLink LinkRow.zero).settleTime = 0) ∧
    (let s := inPhase .standby { empty with rtk := { empty.rtk with planLink := 4, nextPlanLink := 4 } }
     s.slc.phase = .standby ∧ s.wanted = false) ∧
    (let s := inPhase .standby empty
     s.slc.phase = .standby ∧ s.wanted = true ∧ s.carryCondition = true) ∧
    (let s := inPhase .standby { empty with slc := { empty.slc with view := some ⟨9, 3⟩ } }
     s.wanted = true ∧ s.carryCondition = false) := by decide +kernel

/-- A drain and a retry whose timers run out at this instant, the link wanted and not. -/
theorem test_meets_DrainAndRetryTimersEndTheirPhases :
    empty.isTerminal = true ∧ (inPhase .off empty).slc.phase ≠ .draining ∧
    (let s := inPhase .draining { empty with
       rtk := { empty.rtk with planLink := 4, nextPlanLink := 4 }, slc := { empty.slc with drainAt := some 5000000 } }
     s.slc.phase = .draining ∧ s.wanted = false ∧ s.tch.queue.length < 4 ∧ s.dbi.link = none ∧
       s.slc.drainAt = some 5000000 ∧ 5000000 ≤ s.timebase) ∧
    (let s := inPhase .failed { empty with slc := { empty.slc with retryAt := some 5000000 } }
     s.slc.phase = .failed ∧ s.slc.retryAt = some 5000000 ∧ 5000000 ≤ s.timebase ∧ s.wanted = true ∧
       (s.tbl.links.getD s.ownLink LinkRow.zero).settleTime ≠ 0 ∧ s.tch.queue.length < 4) ∧
    (inPhase .failed { empty with rtk := { empty.rtk with planLink := 4, nextPlanLink := 4 } }).wanted = false := by
  decide +kernel

/-- A drain at its instant with its link still wanted. -/
theorem test_meets_DrainOfAWantedLink :
    let s0 := inPhase .draining empty
    let s : State := { s0 with slc := { s0.slc with drainAt := some 5000000 } }
    s.isTerminal = true ∧ s.slc.phase = .draining ∧ s.wanted = true ∧ s.tch.queue.length < 3 ∧ s.dbi.link = none ∧
      (s.tbl.links.getD s.ownLink LinkRow.zero).settleTime ≠ 0 ∧ s.slc.drainAt = some 5000000 := by decide +kernel

/-- A silence of exactly 1000 ms in CARRYING, the phase law holding; a failure in OFF; a channel LOST already. -/
theorem test_meets_TerminalFailureEntersFailed :
    (let s := inPhase .carrying empty
     s.isTerminal = true ∧ s.tch.up = true ∧ PhaseLaw s ∧ s.tch.silenceFrom = some 4999000 ∧
       1000 ≤ s.timebase - 4999000 ∧ activatedPhase s.slc.phase = true ∧ s.tch.queue.length < 4 ∧ s.dbi.link = none) ∧
    (empty.isTerminal = true ∧ activatedPhase empty.slc.phase = false ∧ empty.tch.up = true ∧ PhaseLaw empty) ∧
    (fresh.isTerminal = true ∧ fresh.tch.up = false) := by
  unfold PhaseLaw; decide +kernel

/-- A frame of each queue on the line, a LINK with another beside it. -/
def onLine (q : TxQueue) : State :=
  { empty with dbi := { empty.dbi with
      class1 := [⟨.claim 42, 3, 0⟩], link := some ⟨⟨3, false, .carry⟩, 3, 0⟩, linkBeside := some ⟨⟨3, false, .drain⟩, 0, 0⟩
      beacon := some ⟨some beacon0, 0, 0⟩, bill := some ⟨⟨0, record0⟩, 0, 0⟩
      drainEnd := some ⟨⟨.countDone, 1, 0, 0, 0⟩, 0, 0⟩, reports := [⟨empty.buildReport, 0, 0⟩], onLine := some q } }

/-- While CARRYING: an empty class-2 queue, a LINK waiting, one on the line alone, and one with another beside it. -/
theorem test_meets_TerminalHoldLineMovesTheFlag :
    State.reset.isTerminal = false ∧ empty.isTerminal = true ∧ empty.slc.hold = false ∧ empty.slc.hold ≠ true ∧
    empty.slc.phase ≠ .carrying ∧ (inPhase .carrying empty).slc.phase = .carrying ∧ empty.dbi.link = none ∧
    ((onLine .report).dbi.link = some ⟨⟨3, false, .carry⟩, 3, 0⟩ ∧ (onLine .report).dbi.onLine ≠ some .link) ∧
    ((onLine .link).dbi.onLine = some .link ∧ (onLine .link).dbi.linkBeside = some ⟨⟨3, false, .drain⟩, 0, 0⟩) ∧
    ({ (onLine .link).dbi with linkBeside := none } : Dbi).linkBeside = none := by decide +kernel

/-- A LINK that replaces one waiting beside takes its age (R168, R170). -/
theorem test_link_beside_keeps_age :
    (after (.terminalHoldLineChange true) (inPhase .carrying (onLine .link))).dbi.linkBeside =
      some ⟨⟨3, true, .carry⟩, 0, 0⟩ := by decide +kernel

theorem test_meets_BeaconsFillTheRosterAndDecideTheCover :
    7 ≠ (withPeer .lost []).own ∧ beacon0.serving ≠ .starting ∧
    (withPeer .lost []).peer? 7 = some ⟨7, .lost, some 4998000, none, true⟩ ∧ (withPeer .lost []).slc.view = some ⟨9, 5⟩ ∧
    ({ beacon0 with phase := .carrying } : BeaconMsg).phase = .carrying ∧ fresh.slc.view = none ∧
    beacon0.phase ≠ .carrying ∧ (withPeer .lost []).prc.serving = .serving ∧ (withPeer .lost []).slc.phase ≠ .standby ∧
    (withPeer .lost []).covers 7 = false ∧ (withPeer .lost [⟨7, none⟩]).covers 7 = true ∧
    (∀ x ∈ (withPeer .lost [⟨7, none⟩]).prc.cover, x.station = 7 → x.holdUntil = none) ∧
    (withPeer .lost []).rch.queue.length < 16 ∧
    (∃ x ∈ (withPeer .present [⟨7, some 5004000⟩]).prc.cover, x.station = 7 ∧ x.holdUntil ≠ none) := by decide +kernel

theorem test_meets_BeaconsDecideTheCoverOfNoCarrier :
    ∀ c, (withPeer .lost []).slc.view = some c → c.station ≠ 7 := by
  have h : (withPeer .lost []).slc.view = some ⟨9, 5⟩ := by decide +kernel
  intro c hc
  rw [h] at hc
  cases hc
  decide

/-- A silence of exactly 2000 ms, past 750, of a PRESENT and of a QUIET neighbour not covered. -/
theorem test_meets_SilentPeersFall :
    (withPeer .present []).peer? 7 = some ⟨7, .present, some 4998000, none, true⟩ ∧
    (withPeer .quiet []).peer? 7 = some ⟨7, .quiet, some 4998000, none, true⟩ ∧
    750 ≤ (withPeer .present []).timebase - 4998000 ∧ 2000 ≤ (withPeer .present []).timebase - 4998000 ∧
    (withPeer .quiet []).prc.serving = .serving ∧ (withPeer .quiet []).covers 7 = false := by decide +kernel

/-- A listen period that ends at this instant, silent and not, healthy and not; a beacon time at this instant. -/
theorem test_meets_BeaconScheduleStartsAndGoesOn :
    (let s : State := { empty with prc := { empty.prc with serving := .starting, listenUntil := some 5000000 } }
     s.prc.serving = .starting ∧ s.prc.listenUntil = some 5000000 ∧ 5000000 ≤ s.timebase ∧ s.own ≠ 0 ∧
       s.rtk.silent = false ∧ s.prc.healthDeadline ≠ none ∧ s.rch.up = true ∧ s.rch.queue.length ≤ 13 ∧
       s.sub.attachOrder = []) ∧
    ({ empty with rtk := { empty.rtk with silent := true } } : State).rtk.silent = true ∧
    fresh.prc.healthDeadline = none ∧
    (station.prc.serving ≠ .starting ∧ station.prc.nextBeacon = some 5000000 ∧ 5000000 ≤ station.timebase ∧
      station.own ≠ 0 ∧ station.dbi.beacon = none) := by decide +kernel

/-- Intervals of exactly 900 s: no content; content, with one entry open, over 47 records and over 48. -/
theorem test_meets_BeaconTimeOldIntervals :
    ordersOk (holding { entry0 with start := 4100000 } station) = true ∧
    (holding { entry0 with start := 4100000 } station).slot 0 = .opened { entry0 with start := 4100000 } ∧
    900000 ≤ station.timebase - ({ entry0 with start := 4100000 } : Entry).start ∧
    (entry0.rate false (station.prices station.rtk.zone station.slc.ratingLink 0)).hasContent = false ∧
    ({ entry0 with data := 1 }.rate false (station.prices station.rtk.zone station.slc.ratingLink 0)).hasContent = true ∧
    station.sub.closingOrder = [] ∧ (stored 47 station).bsd.store.length + station.sub.attachOrder.length ≤ 48 ∧
    48 ≤ (stored 48 station).bsd.store.length ∧ (station.slot 1).isOpen = false := by decide +kernel

theorem test_meets_BeaconTimeIntervals :
    ∀ i ∈ station.sub.attachOrder, ∀ e, station.slot i = .opened e → station.timebase - e.start < 900000 := by
  have ho : station.sub.attachOrder = [0] := by decide +kernel
  have hs : station.slot 0 = .opened entry0 := by decide +kernel
  intro i hi e he
  rw [ho, List.mem_singleton] at hi
  subst hi
  rw [hs] at he
  cases he
  decide +kernel

theorem test_meets_HealthAndHoldMoveTheDeadline :
    station.prc.serving ≠ .dark ∧ station.prc.holdUsed = false ∧
    (let s : State := { station with prc := { station.prc with serving := .dark, holdUsed := true } }
     s.prc.serving = .dark ∧ s.prc.holdUsed = true ∧ s.rtk.silent = false ∧ ordersOk s = true) ∧
    (let s : State := { station with prc := { station.prc with serving := .dark }, rtk := { station.rtk with silent := true } }
     s.rtk.silent = true ∧ ordersOk s = true) := by decide +kernel

/-- A deadline at this instant; a silence of exactly 1000 ms with and without a HOLD in force, with the deadline passed, and
outside SERVING; a channel LOST already; an orphan timer at this instant. -/
theorem test_meets_DarkStationsCloseTheirOrphans :
    (let s : State := { station with timebase := 5000100 }
     s.prc.healthDeadline = some 5000100 ∧ 5000100 ≤ s.timebase ∧ s.prc.serving = .serving ∧
       s.rch.queue.length + s.prc.cover.length ≤ 16) ∧
    (station.rch.up = true ∧ station.rch.silenceFrom = some 4999000 ∧ 1000 ≤ station.timebase - 4999000 ∧
      station.prc.deadlineByHold = false) ∧
    (({ station.prc with deadlineByHold := true } : Prc).deadlineByHold = true ∧ station.prc.healthDeadline ≠ none) ∧
    ({ station.prc with serving := .dark } : Prc).serving ≠ .serving ∧ fresh.rch.up = false ∧
    (let s : State := { station with prc := { station.prc with serving := .dark, orphanAt := some 5000000 } }
     ordersOk s = true ∧ s.prc.serving = .dark ∧ s.prc.orphanAt = some 5000000 ∧ 5000000 ≤ s.timebase) := by
  decide +kernel

/-- A whole table, its last row, rows out of order and past the end, no table; no window, another sender, another length. -/
theorem test_meets_WindowsOpenAndStraysCount :
    tableOf 4 = some .route ∧ (0 ≤ 48 ∧ 48 < TableId.route.rows) ∧ tableOf 0 = none ∧ 1 < 2 ∧
    TableId.route.rows ≤ 49 ∧ (heardFrom 9 none empty).tbl.window = none ∧
    (heardFrom 9 none { empty with tbl := { empty.tbl with window := some ⟨.route, 0, 48, 0, 1⟩ } }).tbl.window =
      some ⟨.route, 0, 48, 0, 1⟩ ∧ (1 : Nat) ≠ 9 ∧ [0#8].length ≠ TableId.route.rowLength := by decide +kernel

theorem test_meets_TableDataWritesTheClampedRow :
    (heardFrom 9 none { empty with tbl := { empty.tbl with window := some ⟨.route, 0, 48, 48, 9⟩ } }).tbl.window =
      some ⟨.route, 0, 48, 48, 9⟩ ∧ [9#8, 0#8].length = TableId.route.rowLength ∧ 48 = 47 + 1 ∧
    [0#8, 0#8, 0#8].length = TableId.zone.rowLength ∧ (List.replicate 7 0#8).length = TableId.tariff.rowLength ∧
    (List.replicate 9 0#8).length = TableId.partner.rowLength ∧ (List.replicate 6 0#8).length = TableId.link.rowLength ∧
    (List.replicate 3 0#8).length = TableId.silence.rowLength := by decide +kernel

/-- The notices: the current zone's row and another; a PARTNER row whose entry then fails and one whose entry stays; a
header that cuts the leg off, one that leaves it, and one of length 0 at leg 0 and past it. -/
theorem test_meets_TableDataNotices :
    2 = empty.rtk.zone ∧ 2 < empty.tbl.zones.length ∧ 1 ≠ empty.rtk.zone ∧
    (ordersOk station = true ∧ station.slot 0 = .opened entry0 ∧ entry0.partner = 0 ∧
      ((partnerOf (List.replicate 9 0#8)).home = 0) ∧ entry0.partner ≠ 1 ∧
      station.rch.queue.length + 2 * station.sub.attachOrder.length ≤ 16) ∧
    ({ empty.rtk with leg := 3 } : Rtk).leg < min 4 48 ∧ min 3 48 ≤ ({ empty.rtk with leg := 3 } : Rtk).leg ∧
    ({ empty.rtk with leg := 3 } : Rtk).leg ≠ 0 ∧ (empty.rtk.leg = 0 ∧ min 0 48 = 0) := by decide +kernel

/-- A listen-only station, a frame on the line, and a station with each class alone waiting. -/
theorem test_meets_FrameStartOffersTheLowestClass :
    State.reset.own = 0 ∧ (draining (.running 1 0) 1).dbi.onLine.isSome = true ∧
    (station.own ≠ 0 ∧ station.dbi.onLine = none ∧ station.dbi.class1 ≠ []) ∧
    (let d : Dbi := { empty.dbi with link := some ⟨⟨3, false, .carry⟩, 0, 0⟩ }
     d.class1 = [] ∧ d.link.isSome = true) ∧
    (let d : Dbi := { empty.dbi with beacon := some ⟨none, 0, 0⟩ }
     d.class1 = [] ∧ d.link = none ∧ d.beacon = some ⟨none, 0, 0⟩) ∧
    ((draining (.running 1 0) 1).dbi.bill.isSome = true ∧ (draining (.running 1 0) 1).dbi.drainEnd = none) ∧
    ((draining (.ending 0 none) 1).dbi.bill = none ∧ (draining (.ending 0 none) 1).dbi.drainEnd.isSome = true) ∧
    (empty.dbi.bill = none ∧ empty.dbi.drainEnd = none ∧ empty.dbi.reports = []) ∧
    [(⟨empty.buildReport, 0, 0⟩ : Waiting ReportMsg)] ≠ [] := by decide +kernel

theorem test_meets_LostFrameIsDeferred :
    empty.dbi.onLine = none ∧ (onLine .class1).dbi.onLine.isSome = true ∧
    (onLine .class1).dbi.class1 = ⟨.claim 42, 3, 0⟩ :: [] ∧ (onLine .link).dbi.link = some ⟨⟨3, false, .carry⟩, 3, 0⟩ ∧
    (onLine .beacon).dbi.beacon = some ⟨some beacon0, 0, 0⟩ ∧ (onLine .bill).dbi.bill = some ⟨⟨0, record0⟩, 0, 0⟩ ∧
    (onLine .drainEnd).dbi.drainEnd = some ⟨⟨.countDone, 1, 0, 0, 0⟩, 0, 0⟩ ∧
    (onLine .report).dbi.reports = ⟨empty.buildReport, 0, 0⟩ :: [] := by decide +kernel

theorem test_meets_SentFrameLeavesItsPlace :
    empty.dbi.onLine = none ∧
    (let s : State := { station with dbi := { station.dbi with onLine := some .class1 } }
     s.dbi.onLine = some .class1 ∧ s.dbi.class1 = ⟨.claim 42, 0, 4880000⟩ :: [] ∧ s.findOpen 42 = some 0 ∧
       s.slot 0 = .opened entry0 ∧ s.findOpen 42 ≠ some 95) ∧
    (let s : State := { quiet with dbi := { quiet.dbi with
       onLine := some .class1, class1 := [⟨.release ⟨42, 9, 5, false, 0⟩, 0, 0⟩] } }
     s.dbi.class1 = ⟨.release ⟨42, 9, 5, false, 0⟩, 0, 0⟩ :: []) ∧
    (onLine .report).dbi.onLine = some .report ∧ (onLine .link).dbi.onLine = some .link := by decide +kernel

/-- A LINK of each announcement and a BEACON on the line. -/
theorem test_meets_SentLinkAndBeacon :
    (onLine .link).dbi.link = some ⟨⟨3, false, .carry⟩, 3, 0⟩ ∧ (⟨3, false, .carry⟩ : LinkMsg).announce = .carry ∧
    (⟨3, false, .drain⟩ : LinkMsg).announce = .drain ∧ (⟨3, false, .down true⟩ : LinkMsg).announce = .down true ∧
    ((onLine .beacon).dbi.onLine = some .beacon ∧ (onLine .beacon).dbi.beacon = some ⟨some beacon0, 0, 0⟩ ∧
      beacon0.serving ≠ .starting) := by decide +kernel

/-- The own LINK of each announcement and a BEACON on the line, with and without a view of the part itself. -/
theorem test_meets_OwnLinkFramesReachTheView :
    (let s : State := { onLine .link with slc := { empty.slc with view := none } }
     s.dbi.onLine = some .link ∧ s.dbi.link = some ⟨⟨3, false, .carry⟩, 3, 0⟩ ∧ s.slc.view = none) ∧
    (let s : State := { empty with
       slc := { empty.slc with view := some ⟨5, 3⟩ }
       dbi := { empty.dbi with onLine := some .link, link := some ⟨⟨3, false, .down true⟩, 0, 0⟩ } }
     s.dbi.link = some ⟨⟨3, false, .down true⟩, 0, 0⟩ ∧ (Announce.down true ≠ .carry) ∧ s.slc.view = some ⟨s.own, 3⟩) ∧
    (let s : State := { onLine .beacon with slc := { empty.slc with view := some ⟨5, 3⟩ } }
     s.dbi.onLine = some .beacon ∧ s.dbi.beacon = some ⟨some beacon0, 0, 0⟩ ∧ beacon0.phase ≠ .carrying ∧
       s.slc.view = some ⟨s.own, 3⟩) := by decide +kernel

theorem test_meets_QueryIsAnsweredByAReport :
    7 ≠ (hear 1 empty).own ∧ 5 = (hear 1 empty).own ∧ (onLine .report).dbi.reports.length < 2 ∧
    2 ≤ ({ empty.dbi with reports := List.replicate 2 ⟨empty.buildReport, 0, 0⟩ } : Dbi).reports.length ∧
    (hear 1 { empty with tbl := { empty.tbl with window := some ⟨.zone, 0, 7, 0, 2⟩ } }).tbl.window =
      some ⟨.zone, 0, 7, 0, 2⟩ := by decide +kernel

/-- A radio queue of fifteen and of sixteen directives, the oldest being sent or not, the hold line asserted. -/
theorem test_meets_DirectivesGoOutInOrder :
    (List.replicate 15 RadioDirective.dormant).length < 16 ∧ 16 ≤ (List.replicate 16 RadioDirective.dormant).length ∧
    ({ empty.rch with sending := true } : Chan RadioDirective).sending = true ∧ empty.rch.sending = false ∧
    ({ empty.tch with sending := true } : Chan TerminalDirective).sending = true ∧ empty.tch.sending = false ∧
    (let s : State := { empty with radioHold := true, rch := { empty.rch with sending := true, queue := [.dormant] } }
     s.radioHold = true ∧ (after .health s).rch.sending = true) ∧ Instr.health ≠ .radioHoldLineReleased := by
  decide +kernel

/-- A terminal directive queue with one place left, and a full one. -/
theorem test_meets_TerminalDirectives :
    ({ empty.tch with queue := List.replicate 3 .activate } : Chan TerminalDirective).queue.length < 4 ∧
    4 ≤ ({ empty.tch with queue := List.replicate 4 .activate } : Chan TerminalDirective).queue.length := by decide +kernel

theorem test_meets_FramesAndPayloadsReadBack :
    (3 ≤ 3 ∧ 1 ≤ 31 ∧ 31 ≤ 31 ∧ (List.replicate 32 0xFF#8).length ≤ 32) ∧ 2 ^ 40 - 1 < 2 ^ 40 ∧
    (⟨2 ^ 40 - 1, 255, 2 ^ 24 - 1, true, 255⟩ : ReleaseMsg).wf = true ∧
    ({ beacon0 with cover := [1, 31, 255, 7] } : BeaconMsg).wf = true ∧ 7 < 8 := by decide

theorem test_meets_ChannelFramesAreReceived : 255 < 256 ∧ (List.replicate 16 0x7E#8).length ≤ 16 := by decide

/-! ## The laws, at the station with its entry open -/

theorem forall_opened (P : Entry → Prop) [DecidablePred P] (s : State)
    (h : (s.sub.slots.all (fun x => match x with | .opened e => decide (P e) | .free => true | .closing _ => true)) = true) :
    ∀ e, Slot.opened e ∈ s.sub.slots → P e := fun e he => by
  simpa using List.all_eq_true.1 h _ he

theorem test_meets_StepKeepsTheTableAndTheCap : OrdersLaw station ∧ KeysLaw station ∧ CapLaw station ∧
    ∃ t, step station = .next t :=
  ⟨orders_station, by unfold KeysLaw; decide +kernel,
    fun e he => by
      unfold Entry.CapLaw
      exact forall_opened (fun e => e.k ≤ ceilingOf e.cap ∧ (e.state = .barred ↔ e.cap ≠ 0 ∧ e.k = e.cap)) station
        (by decide +kernel) e he,
    ⟨_, rfl⟩⟩

theorem test_meets_StepKeepsTheClaimsAndTheDepartures : ClaimsLaw station ∧ DeparturesLaw station :=
  ⟨⟨by decide +kernel, by decide +kernel, forall_opened
      (fun e => e.claimPending = true ↔ e.key ∈ station.hov.pendingClaims) station (by decide +kernel)⟩,
    ⟨by decide +kernel, by decide +kernel, forall_opened
      (fun e => e.key ∉ station.hov.departures.map Departure.key) station (by decide +kernel)⟩⟩

theorem test_meets_StepKeepsPartnersInTheirZones : PartnerLaw station :=
  forall_opened (fun e => (station.partnerRow e.partner).fails station.rtk.zone = false) station (by decide +kernel)

theorem test_meets_StepKeepsTheServingStates : ServingLaw station ∧ TimersLaw station ∧ ListenOnlyLaw station :=
  ⟨by unfold ServingLaw; decide +kernel, by unfold TimersLaw; decide +kernel, by unfold ListenOnlyLaw; decide +kernel⟩

theorem test_meets_StepKeepsThePlacesAndTheDrain :
    PlacesLaw station ∧ DeferralLaw station ∧ ClosingLaw station ∧ DrainLaw station := by
  have hl : station.dbi.link = none := by decide +kernel
  have hb : station.dbi.linkBeside = none := by decide +kernel
  have hc : station.dbi.beacon = none := by decide +kernel
  have hd : station.dbi.bill = none := by decide +kernel
  have he : station.dbi.drainEnd = none := by decide +kernel
  refine ⟨by unfold PlacesLaw; decide +kernel, ⟨?_, by simp [hl], by simp [hb], by simp [hc], by simp [hd], by simp [he], ?_⟩,
    by unfold ClosingLaw; decide +kernel, by simp [DrainLaw, hd, he]⟩
  · unfold Waiting.Bounded; decide +kernel
  · unfold Waiting.Bounded; decide +kernel

/-- At a station whose plan pair is that of its leg. -/
theorem test_meets_StepKeepsTheRoute : LegLaw station ∧ RouteHeld station :=
  ⟨by unfold LegLaw; decide +kernel, by unfold RouteHeld; decide +kernel⟩

theorem test_meets_StepKeepsTheGateAndThePhase : GateLaw station ∧ PhaseLaw station :=
  ⟨by unfold GateLaw; decide +kernel, by unfold PhaseLaw; decide +kernel⟩

theorem test_meets_StepKeepsTheCover : RosterLaw station ∧ CoverLaw station ∧
    CoverLaw (withPeer .lost [⟨7, none⟩]) :=
  ⟨by unfold RosterLaw; decide +kernel, by unfold CoverLaw; decide +kernel, by unfold CoverLaw; decide +kernel⟩

end Sys2Proof.Tests
end

section
/-! The subscriber table's obligations: a DETACH and a USAGE. First the facts about the shared operations they are made
of (a rating, the offering of a record, the end of a close), each said once; then the two commands. -/

namespace Sys2Proof.Machine

/-! ## What a record and a new interval read of the state -/

/-- A record reads the station's straps and the route alone. -/
theorem State.buildRecord_congr {s t : State} (hcfg : t.cfg = s.cfg) (hrtk : t.rtk = s.rtk) (cause : Cause)
    (e : Entry) : t.buildRecord cause e = s.buildRecord cause e := by
  simp [State.buildRecord, State.own, hcfg, hrtk]

/-- A new interval reads the time, the zone and the rating link alone. -/
theorem State.openInterval_congr {s t : State} (htime : t.timebase = s.timebase) (hrtk : t.rtk = s.rtk)
    (hslc : t.slc = s.slc) (e : Entry) : t.openInterval e = s.openInterval e := by
  simp [State.openInterval, htime, hrtk, hslc]

theorem State.takesFinal_iff (s : State) :
    s.takesFinal = true ↔ s.bsd.store.length < 64 ∧ s.sub.closingOrder = [] := by
  rw [State.takesFinal, Bool.and_eq_true, decide_eq_true_eq, List.isEmpty_iff, Config.storePlaces]

theorem State.takesInterval_iff (s : State) :
    s.takesInterval = true ↔ s.bsd.store.length ≤ 47 ∧ s.sub.closingOrder = [] := by
  rw [State.takesInterval, Bool.and_eq_true, decide_eq_true_eq, List.isEmpty_iff, Config.intervalRoom]

/-- Records at the final limit, or an earlier one waiting in a CLOSING slot, refuse a final record. -/
theorem State.takesFinal_eq_false {s : State} (h : 64 ≤ s.bsd.store.length ∨ s.sub.closingOrder ≠ []) :
    s.takesFinal = false :=
  Bool.eq_false_iff.2 fun ht =>
    have ⟨hroom, hnone⟩ := s.takesFinal_iff.1 ht
    h.elim (fun hfull => by omega) (fun hsome => hsome hnone)

/-- Records at the interval limit, or a final one waiting in a CLOSING slot, defer an interval record. -/
theorem State.takesInterval_eq_false {s : State} (h : 48 ≤ s.bsd.store.length ∨ s.sub.closingOrder ≠ []) :
    s.takesInterval = false :=
  Bool.eq_false_iff.2 fun ht =>
    have ⟨hroom, hnone⟩ := s.takesInterval_iff.1 ht
    h.elim (fun hhigh => by omega) (fun hsome => hsome hnone)

/-! ## Slots -/

/-- Of two writes of one slot the second stands. -/
@[simp] theorem State.setSlot_setSlot (s : State) (i : Nat) (x y : Slot) :
    (s.setSlot i x).setSlot i y = s.setSlot i y := by
  simp [State.setSlot]

theorem State.updateEntry_of_opened {s : State} {i : Nat} {e : Entry} (h : s.slot i = .opened e) (f : Entry → Entry) :
    s.updateEntry i f = s.setSlot i (.opened (f e)) := by
  simp [State.updateEntry, h]

theorem State.intervalDue_of_opened {s : State} {i : Nat} {e : Entry} (h : s.slot i = .opened e) :
    s.intervalDue i = decide (900000 ≤ s.timebase - e.start) := by
  rw [State.intervalDue, h]; rfl

theorem State.interimDue_of_opened {s : State} {i : Nat} {e : Entry} (h : s.slot i = .opened e) :
    s.interimDue i = e.interimDue := by
  simp [State.interimDue, h]

/-! ## Rating -/

@[simp] theorem State.prices_setSlot (zone link partner i : Nat) (x : Slot) (s : State) :
    (s.setSlot i x).prices zone link partner = s.prices zone link partner := rfl

theorem becameBarred_iff {before after : Entry} :
    becameBarred before after = true ↔ before.state = .active ∧ after.state = .barred := by
  simp [becameBarred]

theorem rateSlot_of_opened {s : State} {i : Nat} {e : Entry} (final quiet : Bool) (zone link : Nat)
    (h : s.slot i = .opened e) :
    rateSlot final quiet zone link i s =
      let e' := e.rate final (s.prices zone link e.partner)
      if becameBarred e e' && !quiet then queueRadio (.bar e.key) (s.setSlot i (.opened e'))
      else s.setSlot i (.opened e') := by
  simp [rateSlot, h]

section
variable (final quiet : Bool) (zone link i : Nat) (s : State)

@[simp] theorem rateSlot_bsd : (rateSlot final quiet zone link i s).bsd = s.bsd :=
  rateSlot_touches final quiet zone link i s .bsd (by decide)

@[simp] theorem rateSlot_hov : (rateSlot final quiet zone link i s).hov = s.hov :=
  rateSlot_touches final quiet zone link i s .hov (by decide)

@[simp] theorem rateSlot_timebase : (rateSlot final quiet zone link i s).timebase = s.timebase :=
  rateSlot_touches final quiet zone link i s .timebase (by decide)

@[simp] theorem rateSlot_closingOrder :
    (rateSlot final quiet zone link i s).sub.closingOrder = s.sub.closingOrder :=
  (rateSlot_orders final quiet zone link i s).2.1

/-- A rating leaves what a record is made of besides the entry. -/
@[simp] theorem State.buildRecord_rateSlot (cause : Cause) (e : Entry) :
    (rateSlot final quiet zone link i s).buildRecord cause e = s.buildRecord cause e :=
  have hf := rateSlot_touches final quiet zone link i s
  State.buildRecord_congr (hf .cfg (by decide)) (hf .rtk (by decide)) cause e

/-- A rating leaves what a new interval is made of besides the entry. -/
@[simp] theorem State.openInterval_rateSlot (e : Entry) :
    (rateSlot final quiet zone link i s).openInterval e = s.openInterval e :=
  have hf := rateSlot_touches final quiet zone link i s
  State.openInterval_congr (hf .timebase (by decide)) (hf .rtk (by decide)) (hf .slc (by decide)) e

@[simp] theorem State.takesInterval_rateSlot :
    (rateSlot final quiet zone link i s).takesInterval = s.takesInterval := by
  simp [State.takesInterval]

@[simp] theorem State.takesFinal_rateSlot : (rateSlot final quiet zone link i s).takesFinal = s.takesFinal := by
  simp [State.takesFinal]

end

/-- A rating that bars the entry sends BAR into a queue with room, unless it is quiet; no rating sends more (R13). -/
theorem rateSlot_queue {s : State} {i : Nat} {e : Entry} (final quiet : Bool) (zone link : Nat)
    (h : s.slot i = .opened e) (hroom : s.rch.queue.length < 16) :
    (rateSlot final quiet zone link i s).rch.queue = s.rch.queue ++
      (if becameBarred e (e.rate final (s.prices zone link e.partner)) && !quiet then [.bar e.key] else []) := by
  rw [rateSlot_of_opened final quiet zone link h]
  dsimp only
  split
  · exact (queueRadio_room _ hroom).1
  · simp

/-! ## An interval's record (R67, R69, R70) -/

theorem offerInterval_of_no_content {s : State} {i : Nat} {e : Entry} (cause : Cause) (h : s.slot i = .opened e)
    (hc : e.hasContent = false) : offerInterval cause i s = s.setSlot i (.opened (s.openInterval e)) := by
  simp [offerInterval, h, hc]

theorem offerInterval_of_taken {s : State} {i : Nat} {e : Entry} (cause : Cause) (h : s.slot i = .opened e)
    (hc : e.hasContent = true) (ht : s.takesInterval = true) :
    offerInterval cause i s = (storeRecord (s.buildRecord cause e) s).setSlot i (.opened (s.openInterval e)) := by
  simp [offerInterval, h, hc, ht]

/-- A deferred record changes nothing, but at a change of zone or rating link. -/
theorem offerInterval_of_deferred {s : State} {i : Nat} {e : Entry} {cause : Cause} (hp : cause.changesPair = false)
    (h : s.slot i = .opened e) (hc : e.hasContent = true) (ht : s.takesInterval = false) :
    offerInterval cause i s = s := by
  simp [offerInterval, h, hc, ht, hp]

/-- The end of an interval touches its own slot alone, and no order. -/
theorem offerInterval_keeps (cause : Cause) (i : Nat) (s : State) :
    (∀ j, j ≠ i → (offerInterval cause i s).slot j = s.slot j) ∧
      (offerInterval cause i s).sub.attachOrder = s.sub.attachOrder := by
  unfold offerInterval
  split
  · split
    · split
      · exact ⟨fun j hj => by simp [hj.symm], rfl⟩
      · split
        · exact ⟨fun j hj => by simp [hj.symm], rfl⟩
        · exact ⟨fun _ _ => rfl, rfl⟩
    · exact ⟨fun j hj => by simp [hj.symm], rfl⟩
  · exact ⟨fun _ _ => rfl, rfl⟩

/-! ## A record-making rating (R27) -/

section
variable {s : State} {i : Nat} {e : Entry} {cause : Cause} {zone link : Nat}

/-- An interval without content ends with no record, and a new one opens. -/
theorem recordRating_of_no_content (h : s.slot i = .opened e)
    (hc : (e.rate false (s.prices zone link e.partner)).hasContent = false) :
    (recordRating cause zone link i s).slot i =
        .opened (s.openInterval (e.rate false (s.prices zone link e.partner))) ∧
      (recordRating cause zone link i s).bsd = s.bsd := by
  have hr := (rateSlot_slot false false zone link h).1
  rw [recordRating, offerInterval_of_no_content cause hr hc,
    State.slot_setSlot_self _ _ _ (State.lt_of_slot i _ (by simp [hr]))]
  simp

/-- A record that is taken joins the store's tail, and a new interval opens. -/
theorem recordRating_of_taken (h : s.slot i = .opened e)
    (hc : (e.rate false (s.prices zone link e.partner)).hasContent = true) (ht : s.takesInterval = true) :
    (recordRating cause zone link i s).slot i =
        .opened (s.openInterval (e.rate false (s.prices zone link e.partner))) ∧
      (recordRating cause zone link i s).bsd =
        (storeRecord (s.buildRecord cause (e.rate false (s.prices zone link e.partner))) s).bsd := by
  have hr := (rateSlot_slot false false zone link h).1
  have hi := State.lt_of_slot i (rateSlot false false zone link i s) (by simp [hr])
  rw [recordRating, offerInterval_of_taken cause hr hc (by simpa using ht),
    State.slot_setSlot_self _ _ (storeRecord _ _) hi]
  simp

/-- A record that is deferred leaves the interval open as the rating left it. -/
theorem recordRating_of_deferred (hp : cause.changesPair = false) (h : s.slot i = .opened e)
    (hc : (e.rate false (s.prices zone link e.partner)).hasContent = true) (ht : s.takesInterval = false) :
    (recordRating cause zone link i s).slot i = .opened (e.rate false (s.prices zone link e.partner)) ∧
      (recordRating cause zone link i s).bsd = s.bsd := by
  have hr := (rateSlot_slot false false zone link h).1
  rw [recordRating, offerInterval_of_deferred hp hr hc (by simpa using ht)]
  exact ⟨hr, by simp⟩

/-- A record-making rating changes its own slot alone, and no entry's place. -/
theorem recordRating_keeps (h : s.slot i = .opened e) :
    (∀ j, j ≠ i → (recordRating cause zone link i s).slot j = s.slot j) ∧
      (recordRating cause zone link i s).sub.attachOrder = s.sub.attachOrder := by
  obtain ⟨hslots, hattach⟩ := offerInterval_keeps cause i (rateSlot false false zone link i s)
  exact ⟨fun j hj => (hslots j hj).trans ((rateSlot_slot false false zone link h).2 j hj),
    hattach.trans (rateSlot_orders false false zone link i s).1⟩

end

/-! ## The departure list (R58, R59) -/

theorem departureJoin_of_room {e : Entry} {s : State}
    (h : (s.hov.departures.filter (fun d => d.key != e.key)).length < 32) :
    (departureJoin e s).hov = { s.hov with
      departures := s.hov.departures.filter (fun d => d.key != e.key) ++
        [⟨e.key, e.k, e.capReached, s.timebase⟩] } := by
  simp [departureJoin, joinDepartures, Config.departurePlaces, Nat.not_le.2 h]

theorem departureJoin_of_full {e : Entry} {s : State}
    (h : 32 ≤ (s.hov.departures.filter (fun d => d.key != e.key)).length) :
    (departureJoin e s).hov = { s.hov with
      departures := (s.hov.departures.filter (fun d => d.key != e.key)).drop 1 ++
        [⟨e.key, e.k, e.capReached, s.timebase⟩]
      departureDrops := min (s.hov.departureDrops + 1) 65535 } := by
  simp [departureJoin, joinDepartures, Config.departurePlaces, h, satInc, satAdd, Config.maxCount]

/-- A departure reads the list and the time alone. -/
theorem departureJoin_congr {s t : State} (hhov : t.hov = s.hov) (htime : t.timebase = s.timebase) (e : Entry) :
    (departureJoin e t).hov = (departureJoin e s).hov := by
  unfold departureJoin
  rw [hhov, htime]

/-! ## The end of a close (R16, R17) -/

section
variable {s : State} {i : Nat} {e : Entry} {cause : Cause} {quiet : Bool}

/-- The end of a close up to the record: in the state before the record is offered the entry has left the attach order,
its key is in the departure list and RELEASE-SUB is queued where the cause says so. -/
theorem finishClose_before_offer (h : s.slot i = .opened e) :
    ∃ u, finishClose cause quiet i s =
        (if e.hasContent then offerFinal (s.buildRecord cause e) i u else u.setSlot i .free) ∧
      u.sub = { s.sub with attachOrder := s.sub.attachOrder.erase i } ∧ u.bsd = s.bsd ∧
      u.hov = (if cause.departs then (departureJoin e s).hov else s.hov) ∧
      u.rch = (if cause.releasesSub && !quiet then (queueRadio (.releaseSub e.key) s).rch else s.rch) := by
  simp only [finishClose, h]
  refine ⟨_, rfl, ?_⟩
  split <;> split <;> exact ⟨rfl, rfl, rfl, rfl⟩

/-- An interval without content makes no final record, and its slot is FREE. -/
theorem finishClose_of_no_content (h : s.slot i = .opened e) (hc : e.hasContent = false) :
    (finishClose cause quiet i s).slot i = .free ∧ (finishClose cause quiet i s).bsd = s.bsd ∧
      (finishClose cause quiet i s).sub.closingOrder = s.sub.closingOrder := by
  have hi := s.lt_of_slot i (by simp [h])
  obtain ⟨u, hu, hsub, hbsd, -⟩ := finishClose_before_offer (cause := cause) (quiet := quiet) h
  rw [hu, hc]
  exact ⟨State.slot_setSlot_self _ _ _ (by simpa [hsub] using hi), by simp [hbsd], by simp [hsub]⟩

/-- A final record that is taken joins the store's tail, and its slot is FREE. -/
theorem finishClose_of_taken (h : s.slot i = .opened e) (hc : e.hasContent = true) (ht : s.takesFinal = true) :
    (finishClose cause quiet i s).slot i = .free ∧
      (finishClose cause quiet i s).bsd = (storeRecord (s.buildRecord cause e) s).bsd ∧
      (finishClose cause quiet i s).sub.closingOrder = s.sub.closingOrder := by
  have hi := s.lt_of_slot i (by simp [h])
  obtain ⟨u, hu, hsub, hbsd, -⟩ := finishClose_before_offer (cause := cause) (quiet := quiet) h
  have htu : u.takesFinal = true := by simpa [State.takesFinal, hsub, hbsd] using ht
  rw [hu, if_pos hc, offerFinal, if_pos htu]
  exact ⟨State.slot_setSlot_self _ _ _ (by simpa [hsub] using hi), by simp [hbsd], by simp [hsub]⟩

/-- A final record that is refused stays in its slot, CLOSING, at the tail of the closing order. -/
theorem finishClose_of_refused (h : s.slot i = .opened e) (hc : e.hasContent = true) (ht : s.takesFinal = false) :
    (finishClose cause quiet i s).slot i = .closing (s.buildRecord cause e) ∧
      (finishClose cause quiet i s).bsd = s.bsd ∧
      (finishClose cause quiet i s).sub.closingOrder = s.sub.closingOrder ++ [i] := by
  have hi := s.lt_of_slot i (by simp [h])
  obtain ⟨u, hu, hsub, hbsd, -⟩ := finishClose_before_offer (cause := cause) (quiet := quiet) h
  have htu : u.takesFinal = false := by simpa [State.takesFinal, hsub, hbsd] using ht
  rw [hu, if_pos hc, offerFinal, if_neg (by simp [htu])]
  exact ⟨State.slot_setSlot_self i (.closing _) u (by simpa [hsub] using hi), hbsd, by simp [hsub]⟩

/-- What the end of a close does to the departure list and to the radio queue, by its cause (Table 1.5). -/
theorem finishClose_departure_directive (h : s.slot i = .opened e) :
    (finishClose cause quiet i s).hov = (if cause.departs then (departureJoin e s).hov else s.hov) ∧
      (finishClose cause quiet i s).rch =
        (if cause.releasesSub && !quiet then (queueRadio (.releaseSub e.key) s).rch else s.rch) := by
  obtain ⟨u, hu, -, -, hhov, hrch⟩ := finishClose_before_offer (cause := cause) (quiet := quiet) h
  have hf : Touches [.sub, .bsd] u (finishClose cause quiet i s) := by
    rw [hu]
    exact .ite _ (offerFinal_touches _ _ _) (setSlot_touches _ _ _).mono
  exact ⟨(hf .hov (by decide)).trans hhov, (hf .rch (by decide)).1.trans hrch⟩

end

/-! ## A whole close (R16, R33) -/

section
variable {s : State} {i : Nat} {old : Entry} {cause : Cause} {quiet : Bool}

theorem closeSlot_of_no_content (h : s.slot i = .opened old)
    (hc : (old.rate true (s.prices s.rtk.zone s.slc.ratingLink old.partner)).hasContent = false) :
    (closeSlot cause quiet i s).slot i = .free ∧ (closeSlot cause quiet i s).bsd = s.bsd ∧
      (closeSlot cause quiet i s).sub.closingOrder = s.sub.closingOrder := by
  simpa [closeSlot] using finishClose_of_no_content (cause := cause) (quiet := quiet)
    (rateSlot_slot true quiet s.rtk.zone s.slc.ratingLink h).1 hc

theorem closeSlot_of_taken (h : s.slot i = .opened old)
    (hc : (old.rate true (s.prices s.rtk.zone s.slc.ratingLink old.partner)).hasContent = true)
    (ht : s.takesFinal = true) :
    (closeSlot cause quiet i s).slot i = .free ∧
      (closeSlot cause quiet i s).bsd = (storeRecord
        (s.buildRecord cause (old.rate true (s.prices s.rtk.zone s.slc.ratingLink old.partner))) s).bsd ∧
      (closeSlot cause quiet i s).sub.closingOrder = s.sub.closingOrder := by
  simpa [closeSlot] using finishClose_of_taken (cause := cause) (quiet := quiet)
    (rateSlot_slot true quiet s.rtk.zone s.slc.ratingLink h).1 hc (by simpa using ht)

theorem closeSlot_of_refused (h : s.slot i = .opened old)
    (hc : (old.rate true (s.prices s.rtk.zone s.slc.ratingLink old.partner)).hasContent = true)
    (ht : s.takesFinal = false) :
    (closeSlot cause quiet i s).slot i =
        .closing (s.buildRecord cause (old.rate true (s.prices s.rtk.zone s.slc.ratingLink old.partner))) ∧
      (closeSlot cause quiet i s).bsd = s.bsd ∧
      (closeSlot cause quiet i s).sub.closingOrder = s.sub.closingOrder ++ [i] := by
  simpa [closeSlot] using finishClose_of_refused (cause := cause) (quiet := quiet)
    (rateSlot_slot true quiet s.rtk.zone s.slc.ratingLink h).1 hc (by simpa using ht)

/-- The departure list after a close, by its cause (R58). -/
theorem closeSlot_hov (h : s.slot i = .opened old) :
    (closeSlot cause quiet i s).hov =
      if cause.departs then
        (departureJoin (old.rate true (s.prices s.rtk.zone s.slc.ratingLink old.partner)) s).hov
      else s.hov := by
  have hr := (rateSlot_slot true quiet s.rtk.zone s.slc.ratingLink h).1
  rw [closeSlot, (finishClose_departure_directive hr).1, rateSlot_hov,
    departureJoin_congr (rateSlot_hov _ _ _ _ _ _) (rateSlot_timebase _ _ _ _ _ _)]

/-- A close at a cause without RELEASE-SUB sends nothing but the BAR of its final rating. -/
theorem closeSlot_queue_of_no_release (hcause : cause.releasesSub = false) (h : s.slot i = .opened old)
    (hroom : s.rch.queue.length < 16) :
    (closeSlot cause quiet i s).rch.queue = s.rch.queue ++
      (if becameBarred old (old.rate true (s.prices s.rtk.zone s.slc.ratingLink old.partner)) && !quiet
        then [.bar old.key] else []) := by
  have hr := (rateSlot_slot true quiet s.rtk.zone s.slc.ratingLink h).1
  rw [closeSlot, (finishClose_departure_directive hr).2, hcause, Bool.false_and]
  exact rateSlot_queue true quiet s.rtk.zone s.slc.ratingLink h hroom

end

/-! ## DETACH (R12) -/

theorem takeDetach_unknown {s : State} {key : Nat} (h : s.findOpen key = none) : takeDetach key s = s := by
  simp [takeDetach, h]

theorem takeDetach_open {s : State} {key i : Nat} (h : s.findOpen key = some i) :
    takeDetach key s = closeSlot .detach false i s := by
  simp [takeDetach, h]

/-- The key looked up is the key of the entry in the slot found. -/
theorem State.key_of_findOpen {s : State} {key i : Nat} {e : Entry} (h : s.findOpen key = some i)
    (hs : s.slot i = .opened e) : e.key = key := by
  obtain ⟨-, e', he', hkey⟩ := State.findOpen_some h
  obtain rfl : e = e' := by simpa [hs] using he'
  exact hkey

/-- Settles O20: the DETACH of an open key is one whole close, whose effect on each block is said above. -/
theorem detachClosesTheEntry : Obligations.DetachClosesTheEntry := by
  intro key s
  refine ⟨fun hnone => congrArg Host.Outcome.next (takeDetach_unknown hnone), fun i old hfound hopen => ?_⟩
  obtain rfl := State.key_of_findOpen hfound hopen
  have hg : (radioGood s).slot i = .opened old := hopen
  have hclose : takeDetach old.key (radioGood s) = closeSlot .detach false i (radioGood s) := takeDetach_open hfound
  obtain ⟨-, hothers, hattach, -⟩ := closeSlot_orders .detach false hg
  have hhov := closeSlot_hov (cause := .detach) (quiet := false) hg
  refine ⟨closeSlot .detach false i (radioGood s), congrArg Host.Outcome.next hclose, hattach, hothers,
    fun hroom => hhov.trans (departureJoin_of_room hroom), fun hfull => hhov.trans (departureJoin_of_full hfull),
    fun hc => closeSlot_of_no_content hg hc, fun hc hroom hnone => ?taken,
    fun hc hwait => closeSlot_of_refused hg hc (State.takesFinal_eq_false hwait), fun hroom => ?queue,
    (radioGood_touches s).comp (closeSlot_touches _ _ _ _)⟩
  case taken =>
    obtain ⟨hslot, hbsd, horder⟩ :=
      closeSlot_of_taken (cause := .detach) (quiet := false) hg hc ((State.takesFinal_iff _).2 ⟨hroom, hnone⟩)
    exact ⟨hslot, congrArg Bsd.store hbsd, congrArg Bsd.nextSequence hbsd, horder.trans hnone⟩
  case queue =>
    rw [closeSlot_queue_of_no_release rfl hg hroom, Bool.not_false, Bool.and_true]
    exact congrArg (s.rch.queue ++ ·) (if_congr becameBarred_iff rfl rfl)

/-! ## USAGE (R10, R11, R28) -/

theorem takeUsage_unknown {s : State} {key data voice : Nat} (h : s.findOpen key = none) :
    takeUsage key data voice s =
      { s with sub := { s.sub with unknownUsage := min (s.sub.unknownUsage + 1) 65535 } } := by
  rw [takeUsage, h]; rfl

/-- A USAGE of an open key puts its increments into the entry, the voice increment held to 3,600 s, and the checks
follow. -/
theorem takeUsage_open {s : State} {key data voice i : Nat} {e : Entry} (h : s.findOpen key = some i)
    (hs : s.slot i = .opened e) :
    takeUsage key data voice s = usageChecks i (s.setSlot i (.opened (e.takeUsage data (min voice 3600)))) := by
  rw [takeUsage, h]
  exact congrArg (usageChecks i) (State.updateEntry_of_opened hs _)

@[simp] theorem Entry.takeUsage_start (data voice : Nat) (e : Entry) : (e.takeUsage data voice).start = e.start := by
  unfold Entry.takeUsage; split <;> rfl

@[simp] theorem Entry.takeUsage_partner (data voice : Nat) (e : Entry) :
    (e.takeUsage data voice).partner = e.partner := by
  unfold Entry.takeUsage; split <;> rfl

@[simp] theorem Entry.takeUsage_key (data voice : Nat) (e : Entry) : (e.takeUsage data voice).key = e.key := by
  unfold Entry.takeUsage; split <;> rfl

theorem Entry.takeUsage_of_active {e : Entry} (h : e.state = .active) (data voice : Nat) :
    e.takeUsage data voice = e.addUsage data voice := by
  simp [Entry.takeUsage, h]

theorem Entry.takeUsage_of_barred {e : Entry} (h : e.state = .barred) (data voice : Nat) :
    e.takeUsage data voice = e.addOverrun data voice := by
  simp [Entry.takeUsage, h]

theorem Entry.interimDue_iff (e : Entry) :
    e.interimDue = true ↔ e.state = .active ∧ (1024 ≤ e.unratedData ∨ 300 ≤ e.unratedVoice) := by
  rw [Entry.interimDue, Bool.and_eq_true, Bool.or_eq_true, decide_eq_true_eq, decide_eq_true_eq, beq_iff_eq,
    Config.interimData, Config.interimVoice]

section
variable {s : State} {i : Nat} {e : Entry}

theorem usageChecks_of_old (h : s.slot i = .opened e) (hage : 900000 ≤ s.timebase - e.start) :
    usageChecks i s = recordRating .interval s.rtk.zone s.slc.ratingLink i s := by
  rw [usageChecks, State.intervalDue_of_opened h, if_pos (decide_eq_true hage)]

theorem usageChecks_of_young (h : s.slot i = .opened e) (hage : s.timebase - e.start < 900000) :
    usageChecks i s = if e.interimDue then rateSlot false false s.rtk.zone s.slc.ratingLink i s else s := by
  rw [usageChecks, State.intervalDue_of_opened h, if_neg (by simpa using hage), State.interimDue_of_opened h]

end

/-! ### By the age of the interval -/

section
variable {s : State} {key data voice i : Nat} {e : Entry}

/-- A USAGE in a young interval: the entry takes the increments, and is rated where an interim rating is due. -/
theorem takeUsage_of_young (hfound : s.findOpen key = some i) (h : s.slot i = .opened e)
    (hage : s.timebase - e.start < 900000) :
    takeUsage key data voice s =
      let e1 := e.takeUsage data (min voice 3600)
      let e2 := e1.rate false (s.prices s.rtk.zone s.slc.ratingLink e.partner)
      if e1.interimDue then
        if becameBarred e1 e2 then queueRadio (.bar key) (s.setSlot i (.opened e2)) else s.setSlot i (.opened e2)
      else s.setSlot i (.opened e1) := by
  have hi := s.lt_of_slot i (by simp [h])
  have hu := State.slot_setSlot_self i (.opened (e.takeUsage data (min voice 3600))) s hi
  have hkey := State.key_of_findOpen hfound h
  rw [takeUsage_open hfound h, usageChecks_of_young hu (by simpa using hage), rateSlot_of_opened _ _ _ _ hu]
  simp only [State.setSlot_setSlot, Entry.takeUsage_partner, Entry.takeUsage_key, hkey, Bool.not_false, Bool.and_true,
    State.prices_setSlot, State.setSlot_rtk, State.setSlot_slc]

/-- A USAGE in an old interval: the entry takes the increments and an INTERVAL event follows. -/
theorem takeUsage_of_old (hfound : s.findOpen key = some i) (h : s.slot i = .opened e)
    (hage : 900000 ≤ s.timebase - e.start) :
    takeUsage key data voice s = recordRating .interval s.rtk.zone s.slc.ratingLink i
      (s.setSlot i (.opened (e.takeUsage data (min voice 3600)))) := by
  have hi := s.lt_of_slot i (by simp [h])
  have hu := State.slot_setSlot_self i (.opened (e.takeUsage data (min voice 3600))) s hi
  rw [takeUsage_open hfound h, usageChecks_of_old hu (by simpa using hage)]
  rfl

/-- A BARRED entry in a young interval takes the increments into its overrun, and no check acts. -/
theorem takeUsage_of_young_barred (hfound : s.findOpen key = some i) (h : s.slot i = .opened e)
    (hage : s.timebase - e.start < 900000) (hbarred : e.state = .barred) :
    takeUsage key data voice s = s.setSlot i (.opened (e.addOverrun data (min voice 3600))) := by
  have hdue : ¬ (e.addOverrun data (min voice 3600)).interimDue = true := by
    simp [Entry.interimDue, Entry.addOverrun, hbarred]
  rw [takeUsage_of_young hfound h hage, Entry.takeUsage_of_barred hbarred]
  exact if_neg hdue

/-- An ACTIVE entry in a young interval with both meters below their thresholds takes the increments alone. -/
theorem takeUsage_of_young_below (hfound : s.findOpen key = some i) (h : s.slot i = .opened e)
    (hage : s.timebase - e.start < 900000) (hactive : e.state = .active)
    (hdata : (e.addUsage data (min voice 3600)).unratedData < 1024)
    (hvoice : (e.addUsage data (min voice 3600)).unratedVoice < 300) :
    takeUsage key data voice s = s.setSlot i (.opened (e.addUsage data (min voice 3600))) := by
  have hdue : ¬ (e.addUsage data (min voice 3600)).interimDue = true := fun hdue =>
    ((Entry.interimDue_iff _).1 hdue).2.elim (Nat.not_le.2 hdata) (Nat.not_le.2 hvoice)
  rw [takeUsage_of_young hfound h hage, Entry.takeUsage_of_active hactive]
  exact if_neg hdue

/-- An ACTIVE entry in a young interval with a meter at its threshold is rated, and BAR goes where that bars it. -/
theorem takeUsage_of_young_reached (hfound : s.findOpen key = some i) (h : s.slot i = .opened e)
    (hage : s.timebase - e.start < 900000) (hactive : e.state = .active)
    (hreached : 1024 ≤ (e.addUsage data (min voice 3600)).unratedData ∨
      300 ≤ (e.addUsage data (min voice 3600)).unratedVoice) :
    takeUsage key data voice s =
      let e2 := (e.addUsage data (min voice 3600)).rate false (s.prices s.rtk.zone s.slc.ratingLink e.partner)
      if e2.state = .barred then queueRadio (.bar key) (s.setSlot i (.opened e2))
      else s.setSlot i (.opened e2) := by
  have hstate : (e.addUsage data (min voice 3600)).state = .active := hactive
  have hdue := (Entry.interimDue_iff _).2 ⟨hstate, hreached⟩
  rw [takeUsage_of_young hfound h hage, Entry.takeUsage_of_active hactive]
  exact (if_pos hdue).trans (if_congr (becameBarred_iff.trans (and_iff_right hstate)) rfl rfl)

end

/-- Settles O21: a USAGE by the age of the interval it finds, and in a young one by the entry's state and meters. -/
theorem usageIsMeteredAndRated : Obligations.UsageIsMeteredAndRated := by
  refine ⟨fun key data voice s => ⟨fun hnone => congrArg Host.Outcome.next (takeUsage_unknown hnone),
    fun i e hfound hopen hage => ?young⟩, fun key data voice i e s hfound hopen hage => ?old⟩
  case young =>
    have hg : (radioGood s).slot i = .opened e := hopen
    exact ⟨fun hbarred => congrArg Host.Outcome.next (takeUsage_of_young_barred hfound hg hage hbarred),
      fun hactive =>
        ⟨fun hdata hvoice =>
          congrArg Host.Outcome.next (takeUsage_of_young_below hfound hg hage hactive hdata hvoice),
        fun hreached =>
          congrArg Host.Outcome.next (takeUsage_of_young_reached hfound hg hage hactive hreached)⟩⟩
  case old =>
    have huse := takeUsage_of_old (s := radioGood s) (data := data) (voice := voice) hfound hopen hage
    have hi : i < (radioGood s).sub.slots.length := s.lt_of_slot i (by simp [hopen])
    have hu := State.slot_setSlot_self i (.opened (e.takeUsage data (min voice 3600))) (radioGood s) hi
    obtain ⟨hothers, hattach⟩ := recordRating_keeps (cause := .interval) (zone := s.rtk.zone)
      (link := s.slc.ratingLink) hu
    rw [← Entry.takeUsage_partner data (min voice 3600) e]
    refine ⟨_, congrArg Host.Outcome.next huse, fun hc => recordRating_of_no_content hu hc,
      fun hc hroom hnone => ?_, fun hc hwait => recordRating_of_deferred rfl hu hc (State.takesInterval_eq_false hwait),
      fun j hj => (hothers j hj).trans (State.slot_setSlot_ne i j _ _ hj.symm), hattach,
      (radioGood_touches s).comp
        ((setSlot_touches _ _ _).comp (recordRating_touches _ _ _ _ _) (cs := [.sub, .bsd, .rch]))⟩
    obtain ⟨hslot, hbsd⟩ := recordRating_of_taken (cause := .interval) hu hc
      ((State.takesInterval_iff _).2 ⟨hroom, hnone⟩)
    exact ⟨hslot, congrArg Bsd.store hbsd⟩

end Sys2Proof.Machine
end

section
/-! The obligations about the drain: a DRAIN-REQUEST, a DRAIN-END sent and a BILL sent. First the drain's operations
(R74 to R77) by the states they tell apart, room in a full store (R19) and the self-reception of a frame of class 5
(R167), each said once; then the two statements. -/

namespace Sys2Proof.Machine

/-! ## The class-5 places and the drain of a station that is not listen-only (R74 to R77) -/

section
variable {s : State}

theorem State.listenOnly_of_own (hown : s.own ≠ 0) : s.listenOnly = false := beq_eq_false_iff_ne.2 hown

theorem placeBill_of_own (hown : s.own ≠ 0) (r : Stored) :
    placeBill r s = { s with dbi := { s.dbi with bill := some ⟨r, 0, s.timebase⟩ } } := by
  simp [placeBill, State.listenOnly_of_own hown, State.enter]

theorem placeDrainEnd_of_own (hown : s.own ≠ 0) (m : DrainEndMsg) :
    placeDrainEnd m s = { s with dbi := { s.dbi with drainEnd := some ⟨m, 0, s.timebase⟩ } } := by
  simp [placeDrainEnd, State.listenOnly_of_own hown, State.enter]

/-- A drain that ends queues its DRAIN-END, with the voyage and the tally as they stand. -/
theorem endDrain_of_own (hown : s.own ≠ 0) (status : StopStatus) (sent : Nat) :
    endDrain status sent s = { s with
      bsd := { s.bsd with drain := .ending sent none }
      dbi := { s.dbi with drainEnd :=
        (some ⟨⟨status, sent, s.rtk.voyage, s.bsd.tallyWord, s.bsd.tallyCount⟩, 0, s.timebase⟩) } } :=
  placeDrainEnd_of_own (s := { s with bsd := { s.bsd with drain := .ending sent none } }) hown _

/-- A drain that runs with no BILL pending offers the head of the store. -/
theorem offerBill_of_head {left sent : Nat} {r : Stored} {rest : List Stored} (hown : s.own ≠ 0)
    (hdrain : s.bsd.drain = .running left sent) (hstore : s.bsd.store = r :: rest) (hbill : s.dbi.bill = none) :
    offerBill s = { s with dbi := { s.dbi with bill := some ⟨r, 0, s.timebase⟩ } } := by
  rw [← placeBill_of_own hown]
  simp [offerBill, hdrain, hstore, hbill]

/-- No BILL is offered beside one pending. -/
theorem offerBill_of_pending {w : Waiting Stored} (hbill : s.dbi.bill = some w) : offerBill s = s := by
  simp [offerBill, hbill]

theorem beginDrain_of_empty (hown : s.own ≠ 0) (count : Nat) (hstore : s.bsd.store = []) :
    beginDrain count s = { s with
      bsd := { s.bsd with drain := .ending 0 none }
      dbi := { s.dbi with drainEnd :=
        (some ⟨⟨.storeEmpty, 0, s.rtk.voyage, s.bsd.tallyWord, s.bsd.tallyCount⟩, 0, s.timebase⟩) } } := by
  rw [beginDrain, if_pos (by simp [hstore])]
  exact endDrain_of_own (s := { s with bsd := { s.bsd with drain := .running count 0 } }) hown _ _

theorem beginDrain_of_head {r : Stored} {rest : List Stored} (hown : s.own ≠ 0) (count : Nat)
    (hstore : s.bsd.store = r :: rest) (hbill : s.dbi.bill = none) :
    beginDrain count s = { s with
      bsd := { s.bsd with drain := .running count 0 }
      dbi := { s.dbi with bill := some ⟨r, 0, s.timebase⟩ } } := by
  rw [beginDrain, if_neg (by simp [hstore])]
  exact offerBill_of_head (s := { s with bsd := { s.bsd with drain := .running count 0 } }) hown rfl hstore hbill

/-! ### A request, by drain state (R74) -/

theorem requestDrain_of_idle (hdrain : s.bsd.drain = .idle) (count : Nat) :
    requestDrain count s = beginDrain count s := by
  simp [requestDrain, hdrain]

/-- A request reloads a running drain, whose pending BILL stays and counts among those still to go. -/
theorem requestDrain_of_running {left sent : Nat} {w : Waiting Stored} (hdrain : s.bsd.drain = .running left sent)
    (hbill : s.dbi.bill = some w) (count : Nat) :
    requestDrain count s = { s with bsd := { s.bsd with drain := .running count sent } } := by
  rw [requestDrain, hdrain]
  exact offerBill_of_pending (s := { s with bsd := { s.bsd with drain := .running count sent } }) hbill

theorem requestDrain_of_ending {sent : Nat} {waiting : Option Nat} (hdrain : s.bsd.drain = .ending sent waiting)
    (count : Nat) :
    requestDrain count s = { s with bsd := { s.bsd with drain := .ending sent (some count) } } := by
  simp [requestDrain, hdrain]

/-- A DRAIN-REQUEST that names another station, or none, is ignored. -/
theorem takeDrainRequest_elsewhere {target : Nat} (h : target ≠ s.own ∨ target = 0) (count : Nat) :
    takeDrainRequest target count s = s := if_neg (by tauto)

/-- A DRAIN-REQUEST that names this station requests its count, held to 1..16. -/
theorem takeDrainRequest_here {target : Nat} (htarget : target = s.own) (hzero : target ≠ 0) (count : Nat) :
    takeDrainRequest target count s = requestDrain (max 1 (min count 16)) s := if_pos ⟨htarget, hzero⟩

/-! ### The drain after a BILL (R77) -/

theorem continueDrain_of_count_done {sent : Nat} (hdrain : s.bsd.drain = .running 0 sent) :
    continueDrain s = endDrain .countDone sent s := by
  simp [continueDrain, hdrain]

theorem continueDrain_of_store_empty {left sent : Nat} (hdrain : s.bsd.drain = .running (left + 1) sent)
    (hstore : s.bsd.store = []) : continueDrain s = endDrain .storeEmpty sent s := by
  simp [continueDrain, hdrain, hstore]

theorem continueDrain_of_head {left sent : Nat} {r : Stored} {rest : List Stored}
    (hdrain : s.bsd.drain = .running (left + 1) sent) (hstore : s.bsd.store = r :: rest) :
    continueDrain s = offerBill s := by
  simp [continueDrain, hdrain, hstore]

end

/-! ### What the drain leaves alone in its own blocks -/

theorem offerBill_bsd (s : State) : (offerBill s).bsd = s.bsd := offerBill_touches s .bsd (by decide)

theorem offerBill_onLine (s : State) : (offerBill s).dbi.onLine = s.dbi.onLine := by
  unfold offerBill placeBill
  split
  · split <;> rfl
  · rfl

theorem endDrain_bsd (status : StopStatus) (sent : Nat) (s : State) :
    (endDrain status sent s).bsd = { s.bsd with drain := .ending sent none } :=
  placeDrainEnd_touches _ _ .bsd (by decide)

theorem endDrain_onLine (status : StopStatus) (sent : Nat) (s : State) :
    (endDrain status sent s).dbi.onLine = s.dbi.onLine := by
  unfold endDrain placeDrainEnd
  split <;> rfl

/-- The drain that goes on or ends moves nothing of the store but its own state, and nothing on the line. -/
theorem continueDrain_keeps (s : State) :
    (continueDrain s).bsd = { s.bsd with drain := (continueDrain s).bsd.drain } ∧
      (continueDrain s).dbi.onLine = s.dbi.onLine := by
  unfold continueDrain
  split
  · simp [endDrain_bsd, endDrain_onLine]
  · split
    · simp [endDrain_bsd, endDrain_onLine]
    · simp [offerBill_bsd, offerBill_onLine]
  · simp

/-! ## Room in a full store (R19) -/

section
variable {s : State} {i : Nat} {record : Record}

theorem moveClosing_of_closing (hslot : s.slot i = .closing record) :
    moveClosing i s = storeRecord record (State.setSlot
      { s with sub := { s.sub with closingOrder := s.sub.closingOrder.erase i } } i .free) := by
  have hread : State.slot { s with sub := { s.sub with closingOrder := s.sub.closingOrder.erase i } } i =
      .closing record := hslot
  simp [moveClosing, hread]

/-- No record moves into a full store. -/
theorem moveWhileRoom_of_full (l : List Nat) (hfull : 64 ≤ s.bsd.store.length) : moveWhileRoom l s = s := by
  cases l with
  | nil => rfl
  | cons i l => exact if_neg (Nat.not_lt.2 hfull)

theorem storeRoom_of_no_closing (hnone : s.sub.closingOrder = []) : storeRoom s = s := by
  rw [storeRoom, hnone]; rfl

/-- In a store with one place free the record of the oldest CLOSING slot takes it, and no other moves. -/
theorem storeRoom_of_one_place {more : List Nat} (hplace : s.bsd.store.length = 63)
    (horder : s.sub.closingOrder = i :: more) (hslot : s.slot i = .closing record) :
    storeRoom s = storeRecord record (State.setSlot
      { s with sub := { s.sub with closingOrder := more } } i .free) := by
  have hroom : s.bsd.store.length < Config.storePlaces := by rw [hplace]; decide
  rw [storeRoom, horder, moveWhileRoom, if_pos hroom, moveClosing_of_closing hslot, horder, List.erase_cons_head]
  exact moveWhileRoom_of_full more (by simp [hplace])

end

/-! ## A class-5 frame of the part's own, sent and received back (R167) -/

/-- The self-reception of a class-5 frame: it may count a failed check or end a load window, and the class-5 places and
the line stay as the sending left them. -/
structure ReceivedBack (s t : State) : Prop where
  touches  : Touches [.dbi, .tbl] s t
  bill     : t.dbi.bill = s.dbi.bill
  drainEnd : t.dbi.drainEnd = s.dbi.drainEnd
  onLine   : t.dbi.onLine = s.dbi.onLine

theorem ReceivedBack.bsd {s t : State} (h : ReceivedBack s t) : t.bsd = s.bsd := h.touches .bsd (by decide)
theorem ReceivedBack.sub {s t : State} (h : ReceivedBack s t) : t.sub = s.sub := h.touches .sub (by decide)

theorem receivedBack_of_disturbed (c : RxCheck) (s : State) :
    ReceivedBack s { s with dbi := countReceiveError c s.dbi } where
  touches := (Touches.dbi s _).mono
  bill := by cases c <;> rfl
  drainEnd := by cases c <;> rfl
  onLine := by cases c <;> rfl

/-- A frame of the station's own number makes no station heard. -/
theorem hear_own (s : State) : hear s.own s = endWindow s.own s := by
  simp [hear, heardFrom]

theorem receivedBack_of_heard (s : State) : ReceivedBack s (hear s.own s) := by
  have hwindow : Touches [.tbl] s (hear s.own s) := hear_own s ▸ endWindow_touches s.own s
  have hdbi : (hear s.own s).dbi = s.dbi := hwindow .dbi (by decide)
  exact ⟨hwindow.mono, by rw [hdbi], by rw [hdbi], by rw [hdbi]⟩

/-- A kind that the blocks ignore from the part itself is received back, passed or disturbed. -/
theorem receiveOwn_receivedBack {q : TxQueue} (hignored : ∀ before s, ownContent q before s = s) (before : Dbi)
    (disturbed : Option RxCheck) (s : State) : ReceivedBack s (receiveOwn q before disturbed s) := by
  cases disturbed with
  | some c => exact receivedBack_of_disturbed c s
  | none => rw [receiveOwn, hignored]; exact receivedBack_of_heard s

/-- The BILL on the line has left it and its place. -/
def State.withoutBill (s : State) : State := { s with dbi := { s.dbi with onLine := none, bill := none } }

/-- The DRAIN-END on the line has left it and its place. -/
def State.withoutDrainEnd (s : State) : State := { s with dbi := { s.dbi with onLine := none, drainEnd := none } }

theorem State.withoutBill_touches (s : State) : Touches [.dbi] s s.withoutBill := .dbi s _
theorem State.withoutDrainEnd_touches (s : State) : Touches [.dbi] s s.withoutDrainEnd := .dbi s _

theorem exec_frameSent_bill {s : State} {w : Waiting Stored} (disturbed : Option RxCheck)
    (hline : s.dbi.onLine = some .bill) (hbill : s.dbi.bill = some w) :
    ∃ t, exec (.frameSent disturbed) s = .next t ∧ ReceivedBack (billSent w.frame s.withoutBill) t := by
  refine ⟨frameSent disturbed s, rfl, ?_⟩
  simp only [frameSent, hline, takeSending, hbill]
  exact receiveOwn_receivedBack (fun _ _ => rfl) s.dbi disturbed _

theorem exec_frameSent_drainEnd {s : State} {w : Waiting DrainEndMsg} (disturbed : Option RxCheck)
    (hline : s.dbi.onLine = some .drainEnd) (hend : s.dbi.drainEnd = some w) :
    ∃ t, exec (.frameSent disturbed) s = .next t ∧ ReceivedBack (drainEndSent s.withoutDrainEnd) t := by
  refine ⟨frameSent disturbed s, rfl, ?_⟩
  simp only [frameSent, hline, takeSending, hend]
  exact receiveOwn_receivedBack (fun _ _ => rfl) s.dbi disturbed _

/-! ## DRAIN-REQUEST and DRAIN-END (R74, R77) -/

theorem drainEndSent_of_none {s : State} {sent : Nat} (hdrain : s.bsd.drain = .ending sent none) :
    drainEndSent s = { s with bsd := { s.bsd with drain := .idle } } := by
  simp [drainEndSent, hdrain]

/-- A count that waits begins a drain as the DRAIN-END goes. -/
theorem drainEndSent_of_waiting {s : State} {sent m : Nat} {r : Stored} {rest : List Stored} (hown : s.own ≠ 0)
    (hdrain : s.bsd.drain = .ending sent (some m)) (hstore : s.bsd.store = r :: rest) (hbill : s.dbi.bill = none) :
    drainEndSent s = { s with
      bsd := { s.bsd with drain := .running m 0 }
      dbi := { s.dbi with bill := some ⟨r, 0, s.timebase⟩ } } := by
  rw [drainEndSent, hdrain]
  exact beginDrain_of_head (s := { s with bsd := { s.bsd with drain := .idle } }) hown m hstore hbill

/-- Settles O28: the request by target and drain state, and the DRAIN-END sent by the count that waits. -/
theorem drainRequestsActByState : Obligations.DrainRequestsActByState := by
  refine ⟨fun n target count s => ⟨fun helse => congrArg Host.Outcome.next (takeDrainRequest_elsewhere helse count),
    fun htarget hzero => ?request⟩, fun disturbed w sent s hown hline hend hbill => ?sent⟩
  case request =>
    have hown : (hear n s).own ≠ 0 := htarget ▸ hzero
    have hexec : exec (.drainRequest n (some (target, count))) s =
        .next (requestDrain (max 1 (min count 16)) (hear n s)) :=
      congrArg Host.Outcome.next (takeDrainRequest_here htarget hzero count)
    rw [hexec]
    refine ⟨fun hidle hempty => ?ends_at_once, fun r rest hidle hstore hbill => ?begins,
      fun left sent w hrun hbill => ?reloads, fun sent waiting hending => ?waits⟩
    case ends_at_once => rw [requestDrain_of_idle hidle, beginDrain_of_empty hown _ hempty]
    case begins => rw [requestDrain_of_idle hidle, beginDrain_of_head hown _ hstore hbill]
    case reloads => rw [requestDrain_of_running hrun hbill]
    case waits => rw [requestDrain_of_ending hending]
  case sent =>
    obtain ⟨t, hexec, hback⟩ := exec_frameSent_drainEnd disturbed hline hend
    have hframe : Touches [.bsd, .dbi, .tbl] s t :=
      (s.withoutDrainEnd_touches.comp (drainEndSent_touches _) (cs := [.bsd, .dbi])).comp hback.touches
    refine ⟨fun hdrain => ?_, fun m r rest hdrain hstore => ?_⟩
    · rw [drainEndSent_of_none (s := s.withoutDrainEnd) hdrain] at hback
      exact ⟨t, hexec, hback.bsd, hback.drainEnd, hback.bill.trans hbill, hframe⟩
    · rw [drainEndSent_of_waiting (s := s.withoutDrainEnd) hown hdrain hstore hbill] at hback
      exact ⟨t, hexec, hback.bsd, hback.drainEnd, hback.bill, hframe⟩

/-! ## A BILL sent (R76 to R78) -/

/-- The record of a BILL leaves the store, the drain counts it, and the tally takes it in (R76, R78). -/
def takeOutBill (b : Stored) (s : State) : State :=
  { s with bsd := { s.bsd with
      store := s.bsd.store.drop 1
      drain := s.bsd.drain.billSent
      tallyWord := checkwordFrom s.bsd.tallyWord (billBytes b)
      tallyCount := wrapInc Config.maxCount s.bsd.tallyCount } }

theorem billSent_eq (b : Stored) (s : State) : billSent b s = continueDrain (storeRoom (takeOutBill b s)) := rfl

theorem takeOutBill_touches (b : Stored) (s : State) : Touches [.bsd] s (takeOutBill b s) := .bsd s _

section
variable {s : State} {b : Stored} {rest : List Stored} {left sent : Nat}

theorem takeOutBill_store (hstore : s.bsd.store = b :: rest) : (takeOutBill b s).bsd.store = rest :=
  congrArg (List.drop 1) hstore

theorem takeOutBill_tallyWord :
    (takeOutBill b s).bsd.tallyWord = checkwordFrom s.bsd.tallyWord (billBytes b) := by
  simp only [takeOutBill]

theorem takeOutBill_tallyCount :
    (takeOutBill b s).bsd.tallyCount = if 65535 ≤ s.bsd.tallyCount then 0 else s.bsd.tallyCount + 1 :=
  if_congr Iff.rfl rfl rfl

theorem takeOutBill_drain (hdrain : s.bsd.drain = .running left sent) :
    (takeOutBill b s).bsd.drain = .running (left - 1) (min (sent + 1) 255) :=
  congrArg Drain.billSent hdrain

/-- A drain with two or more to go runs on after the BILL. -/
theorem takeOutBill_drain_of_more (hdrain : s.bsd.drain = .running left sent) (hmore : 2 ≤ left) :
    (takeOutBill b s).bsd.drain = .running (left - 2 + 1) (min (sent + 1) 255) := by
  rw [takeOutBill_drain hdrain, show left - 2 + 1 = left - 1 by omega]

theorem billSent_of_no_closing (hnone : s.sub.closingOrder = []) :
    billSent b s = continueDrain (takeOutBill b s) :=
  congrArg continueDrain (storeRoom_of_no_closing (s := takeOutBill b s) hnone)

/-- With no CLOSING slot a BILL sent takes its record out of the store and into the tally, and no record enters. -/
theorem billSent_store_and_tally (hstore : s.bsd.store = b :: rest) (hnone : s.sub.closingOrder = []) :
    (billSent b s).bsd.store = rest ∧
      (billSent b s).bsd.tallyWord = checkwordFrom s.bsd.tallyWord (billBytes b) ∧
      (billSent b s).bsd.tallyCount = (if 65535 ≤ s.bsd.tallyCount then 0 else s.bsd.tallyCount + 1) ∧
      (billSent b s).bsd.nextSequence = s.bsd.nextSequence ∧ (billSent b s).dbi.onLine = s.dbi.onLine := by
  obtain ⟨hbsd, hline⟩ := continueDrain_keeps (takeOutBill b s)
  rw [billSent_of_no_closing hnone, hbsd, hline]
  dsimp only
  exact ⟨takeOutBill_store hstore, takeOutBill_tallyWord, takeOutBill_tallyCount, rfl, rfl⟩

/-- A drain that ends with a BILL: its DRAIN-END carries the tally with the BILL in it. -/
theorem endDrain_takeOutBill (hown : s.own ≠ 0) (status : StopStatus) (count : Nat) :
    (endDrain status count (takeOutBill b s)).bsd.drain = .ending count none ∧
      (endDrain status count (takeOutBill b s)).dbi.bill = s.dbi.bill ∧
      (endDrain status count (takeOutBill b s)).dbi.drainEnd =
        some ⟨⟨status, count, s.rtk.voyage, checkwordFrom s.bsd.tallyWord (billBytes b),
          if 65535 ≤ s.bsd.tallyCount then 0 else s.bsd.tallyCount + 1⟩, 0, s.timebase⟩ := by
  rw [endDrain_of_own (s := takeOutBill b s) hown, takeOutBill_tallyWord, takeOutBill_tallyCount]
  exact ⟨rfl, rfl, rfl⟩

theorem billSent_of_last (hdrain : s.bsd.drain = .running left sent) (hnone : s.sub.closingOrder = [])
    (hlast : left ≤ 1) : billSent b s = endDrain .countDone (min (sent + 1) 255) (takeOutBill b s) := by
  rw [billSent_of_no_closing hnone]
  refine continueDrain_of_count_done ((takeOutBill_drain hdrain).trans ?_)
  rw [Nat.sub_eq_zero_of_le hlast]

theorem billSent_of_last_record (hdrain : s.bsd.drain = .running left sent) (hnone : s.sub.closingOrder = [])
    (hmore : 2 ≤ left) (hstore : s.bsd.store = [b]) :
    billSent b s = endDrain .storeEmpty (min (sent + 1) 255) (takeOutBill b s) := by
  rw [billSent_of_no_closing hnone]
  exact continueDrain_of_store_empty (takeOutBill_drain_of_more hdrain hmore) (takeOutBill_store hstore)

/-- A drain that goes on offers the new head of the store. -/
theorem billSent_of_more {r : Stored} (hown : s.own ≠ 0) (hdrain : s.bsd.drain = .running left sent)
    (hnone : s.sub.closingOrder = []) (hmore : 2 ≤ left) (hstore : s.bsd.store = b :: r :: rest)
    (hbill : s.dbi.bill = none) :
    (billSent b s).bsd.drain = .running (left - 1) (min (sent + 1) 255) ∧
      (billSent b s).dbi.bill = some ⟨r, 0, s.timebase⟩ ∧ (billSent b s).dbi.drainEnd = s.dbi.drainEnd := by
  have hrun := takeOutBill_drain_of_more (b := b) hdrain hmore
  have hhead := takeOutBill_store hstore
  rw [billSent_of_no_closing hnone, continueDrain_of_head hrun hhead,
    offerBill_of_head (s := takeOutBill b s) hown hrun hhead hbill]
  exact ⟨takeOutBill_drain hdrain, rfl, rfl⟩

/-- A BILL out of a full store makes the one place that the oldest CLOSING slot's record takes. -/
theorem billSent_of_full {i : Nat} {more : List Nat} {record : Record} (hfull : s.bsd.store.length = 64)
    (horder : s.sub.closingOrder = i :: more) (hslot : s.slot i = .closing record) :
    (billSent b s).bsd.store = s.bsd.store.drop 1 ++ [⟨s.bsd.nextSequence, record⟩] ∧
      (billSent b s).bsd.nextSequence = (if 65535 ≤ s.bsd.nextSequence then 0 else s.bsd.nextSequence + 1) ∧
      (billSent b s).sub = { s.sub with slots := s.sub.slots.set i .free, closingOrder := more } := by
  have hplace : (takeOutBill b s).bsd.store.length = 63 := by simp [takeOutBill, hfull]
  have hroom := storeRoom_of_one_place (s := takeOutBill b s) hplace horder hslot
  have hsub : (billSent b s).sub = (storeRoom (takeOutBill b s)).sub := continueDrain_touches _ .sub (by decide)
  have hbsd := (continueDrain_keeps (storeRoom (takeOutBill b s))).1
  rw [← billSent_eq] at hbsd
  rw [hsub, hbsd, hroom]
  exact ⟨rfl, rfl, rfl⟩

end

/-- A BILL sent moves the store and the slots that wait for it, and the drain. -/
theorem billSent_touches (b : Stored) (s : State) : Touches [.sub, .bsd, .dbi] s (billSent b s) :=
  ((takeOutBill_touches b s).comp (storeRoom_touches _) (cs := [.sub, .bsd])).comp (continueDrain_touches _)

/-- With no CLOSING slot it moves no slot. -/
theorem billSent_touches_of_no_closing (b : Stored) {s : State} (hnone : s.sub.closingOrder = []) :
    Touches [.bsd, .dbi] s (billSent b s) := by
  rw [billSent_of_no_closing hnone]
  exact (takeOutBill_touches b s).comp (continueDrain_touches _)

/-- Settles O29: with no CLOSING slot the drain's three ways on from the store without the record; in a full store the
place that the record leaves. -/
theorem sentBillLeavesTheStoreAndMakesRoom : Obligations.SentBillLeavesTheStoreAndMakesRoom := by
  refine ⟨fun disturbed w left sent rest s hown hline hbill hend hdrain hstore hnone => ?drain,
    fun disturbed w left sent i more record rest s hline hbill _ hstore hfull horder hslot => ?room⟩
  case drain =>
    obtain ⟨t, hexec, hback⟩ := exec_frameSent_bill disturbed hline hbill
    obtain ⟨hrest, hword, htally, hsequence, hidle⟩ := billSent_store_and_tally (s := s.withoutBill) hstore hnone
    refine ⟨t, hexec, hback.bsd ▸ hrest, hback.bsd ▸ hword, hback.bsd ▸ htally, hback.bsd ▸ hsequence,
      hback.onLine.trans hidle, ?_⟩
    rw [hback.bsd, hback.bill, hback.drainEnd]
    refine ⟨fun hlast => ?count_done, fun hmore hempty => ?store_empty, fun hmore r more hhead => ?goes_on,
      (s.withoutBill_touches.comp (billSent_touches_of_no_closing _ hnone) (cs := [.bsd, .dbi])).comp hback.touches⟩
    case count_done =>
      rw [billSent_of_last (s := s.withoutBill) hdrain hnone hlast]
      exact endDrain_takeOutBill (s := s.withoutBill) hown _ _
    case store_empty =>
      rw [billSent_of_last_record (s := s.withoutBill) hdrain hnone hmore (hempty ▸ hstore)]
      exact endDrain_takeOutBill (s := s.withoutBill) hown _ _
    case goes_on =>
      obtain ⟨hrun, hnext, hsame⟩ :=
        billSent_of_more (s := s.withoutBill) hown hdrain hnone hmore (hhead ▸ hstore) rfl
      exact ⟨hrun, hnext, hsame.trans hend⟩
  case room =>
    have hi := s.lt_of_slot i (by simp [hslot])
    obtain ⟨t, hexec, hback⟩ := exec_frameSent_bill disturbed hline hbill
    obtain ⟨hentered, hsequence, hsub⟩ :=
      billSent_of_full (b := w.frame) (s := s.withoutBill) hfull horder hslot
    have hslots : ∀ j, t.slot j = (s.setSlot i .free).slot j := fun j => by
      simp only [State.slot, hback.sub, hsub]; rfl
    refine ⟨t, hexec, ?_, hback.bsd ▸ hsequence, (hslots i).trans (State.slot_setSlot_self i _ s hi),
      by rw [hback.sub, hsub], fun j hj => (hslots j).trans (State.slot_setSlot_ne i j _ s hj.symm),
      (s.withoutBill_touches.comp (billSent_touches _ _) (cs := [.sub, .bsd, .dbi])).comp hback.touches⟩
    have hrest : s.bsd.store.drop 1 = rest := by rw [hstore]; rfl
    rw [hback.bsd, hentered, ← hrest]
    rfl

end Sys2Proof.Machine
end

section
/-! The obligation about radio-head health: HEALTH and HOLD (R137, R138, R142). First the cover set's operations and the
entry into DORMANT, each by what it leaves of the block of coverage; then the two messages by the state they find. -/

namespace Sys2Proof.Machine

/-! ## What the cover set's operations leave of the block (R133, R136) -/

theorem emptyCover_prc (s : State) : (emptyCover s).prc = { s.prc with cover := [] } :=
  congrArg (fun p : Prc => { p with cover := [] })
    (Touches.foldl (bs := [.rch]) (fun t (m : CoverMember) => queueRadio (.cover m.station false) t)
      (fun _ _ => queueRadio_touches _ _) s.prc.cover s .prc (by decide))

/-- The cover decision at the entry into SERVING moves the members and nothing else of the block. -/
theorem coverFailed_prc (s : State) : ∃ members, (coverFailed s).prc = { s.prc with cover := members } := by
  refine List.foldlRecOn (motive := fun t : State => ∃ members, t.prc = { s.prc with cover := members })
    s.cfg.neighbours _ ⟨s.prc.cover, rfl⟩ fun t ⟨members, hprc⟩ p _ => ?_
  split
  · exact ⟨members ++ [⟨p, none⟩], by rw [addCover_prc, hprc]⟩
  · exact ⟨members, hprc⟩

/-! ## Entry into DORMANT (R95) -/

theorem enterDormant_prc (s : State) :
    (enterDormant s).prc = { s.prc with
      serving := .dormant, cover := [], orphanAt := none
      dwellUntil := some (s.timebase + 2000), pendingWake := false } := by
  have hswept := sweep_touches .dormant false (setServing .dormant s)
  have hprc : (emptyCover (sweep .dormant false (setServing .dormant s))).prc =
      { s.prc with serving := .dormant, cover := [] } := by
    rw [emptyCover_prc, hswept .prc (by decide), setServing_prc]
  have htime : (emptyCover (sweep .dormant false (setServing .dormant s))).timebase = s.timebase :=
    (emptyCover_touches _ .timebase (by decide)).trans (hswept .timebase (by decide))
  simp [enterDormant, hprc, htime, Config.dwell]

/-- Of the subscriber table the entry into DORMANT is its sweep. -/
theorem enterDormant_sub (s : State) : (enterDormant s).sub = (sweep .dormant false (setServing .dormant s)).sub :=
  emptyCover_touches _ .sub (by decide)

theorem enterDormant_attachOrder {s : State} (h : OrdersLaw s) : (enterDormant s).sub.attachOrder = [] := by
  rw [enterDormant_sub]
  exact (sweep_orders (s := setServing .dormant s) .dormant false h).1

/-! ## HEALTH (R137, R142) -/

/-- HEALTH before any return to service: the deadline, the allowance and the mark (R137). -/
def setHealthy (s : State) : State :=
  { s with prc := { s.prc with
      healthDeadline := some (s.timebase + 1000), holdUsed := false, deadlineByHold := false } }

/-- The return from DARK stops the orphan timer (R142). -/
def stopOrphanTimer (s : State) : State := { s with prc := { s.prc with orphanAt := none } }

theorem stopOrphanTimer_setHealthy_touches (s : State) : Touches [.prc] s (stopOrphanTimer (setHealthy s)) := .prc s _

section
variable {s : State}

theorem takeHealth_of_not_dark (h : s.prc.serving ≠ .dark) : takeHealth s = setHealthy s := if_neg h

theorem takeHealth_of_dark (hdark : s.prc.serving = .dark) :
    takeHealth s =
      if s.rtk.silent then enterDormant (stopOrphanTimer (setHealthy s))
      else coverFailed (setServing .serving (stopOrphanTimer (setHealthy s))) :=
  if_pos hdark

theorem takeHealth_of_dark_silent (hdark : s.prc.serving = .dark) (hsilent : s.rtk.silent = true) :
    takeHealth s = enterDormant (stopOrphanTimer (setHealthy s)) := by
  rw [takeHealth_of_dark hdark, if_pos hsilent]

/-- A DARK station whose leg is not silent returns to SERVING, where the cover decision is made at once. -/
theorem takeHealth_of_dark_not_silent (hdark : s.prc.serving = .dark) (hloud : s.rtk.silent = false) :
    takeHealth s = coverFailed (setServing .serving (stopOrphanTimer (setHealthy s))) := by
  rw [takeHealth_of_dark hdark, if_neg (by simp [hloud])]

/-- The return to SERVING keeps every entry. -/
theorem takeHealth_touches_of_not_silent (hdark : s.prc.serving = .dark) (hloud : s.rtk.silent = false) :
    Touches [.prc, .rch] s (takeHealth s) := by
  rw [takeHealth_of_dark_not_silent hdark hloud]
  exact ((stopOrphanTimer_setHealthy_touches s).comp (setServing_touches _ _) (cs := [.prc])).comp
    (coverFailed_touches _)

/-! ## HOLD (R138) -/

theorem takeHold_of_available (h : s.prc.holdUsed = false) :
    takeHold s = { s with prc := { s.prc with
      healthDeadline := some (s.timebase + 5000), holdUsed := true, deadlineByHold := true } } :=
  if_neg (by simp [h])

theorem takeHold_of_used (h : s.prc.holdUsed = true) :
    takeHold s = { s with prc := { s.prc with refusedHolds := min (s.prc.refusedHolds + 1) 65535 } } :=
  if_pos h

end

/-- Settles O40: HEALTH outside DARK, and in DARK by the silence status; HOLD by its allowance. -/
theorem healthAndHoldMoveTheDeadline : Obligations.HealthAndHoldMoveTheDeadline := by
  intro s
  refine ⟨fun hlit => congrArg Host.Outcome.next (takeHealth_of_not_dark (s := radioGood s) hlit),
    fun hdark hloud => ?serving, fun hdark hsilent horders => ?dormant,
    fun hfree => congrArg Host.Outcome.next (takeHold_of_available (s := radioGood s) hfree),
    fun hused => congrArg Host.Outcome.next (takeHold_of_used (s := radioGood s) hused)⟩
  case serving =>
    have hframe := (radioGood_touches s).comp (cs := [.prc, .rch])
      (takeHealth_touches_of_not_silent (s := radioGood s) hdark hloud)
    obtain ⟨members, hprc⟩ := coverFailed_prc (setServing .serving (stopOrphanTimer (setHealthy (radioGood s))))
    rw [← takeHealth_of_dark_not_silent (s := radioGood s) hdark hloud] at hprc
    refine ⟨takeHealth (radioGood s), rfl, ?_⟩
    rw [hprc]
    exact ⟨rfl, rfl, rfl, rfl, rfl, hframe .sub (by decide), hframe⟩
  case dormant =>
    have hframe := (radioGood_touches s).comp (takeHealth_touches (radioGood s))
      (cs := [.sub, .hov, .bsd, .prc, .rch])
    refine ⟨takeHealth (radioGood s), rfl, ?_⟩
    rw [takeHealth_of_dark_silent (s := radioGood s) hdark hsilent] at hframe ⊢
    rw [enterDormant_prc]
    exact ⟨rfl, rfl, rfl, rfl, rfl, enterDormant_attachOrder horders, rfl, hframe⟩

end Sys2Proof.Machine
end

section
/-! The obligation about the load window: TABLE-OPEN (R152) and a stray TABLE-DATA (R153, R154). First each message by
what it names and finds; then the two commands. -/

namespace Sys2Proof.Machine

/-! ## The window a TABLE-OPEN asks for (R152) -/

/-- The message names a table of Table 12.3 and rows of it in order, so a window opens on that table. -/
def OpensWindow (m : WindowMsg) (t : TableId) : Prop :=
  tableOf m.table = some t ∧ m.first ≤ m.last ∧ m.last < t.rows

/-- Each of the reasons for a refusal rules out a window on every table. -/
theorem not_opensWindow_of_refused {m : WindowMsg}
    (h : tableOf m.table = none ∨ m.last < m.first ∨ ∃ t, tableOf m.table = some t ∧ t.rows ≤ m.last) (t : TableId) :
    ¬ OpensWindow m t := by
  rintro ⟨htable, horder, hlast⟩
  obtain hnone | hcrossed | ⟨t', htable', hpast⟩ := h
  · exact Option.some_ne_none t (htable.symm.trans hnone)
  · exact Nat.not_lt.2 horder hcrossed
  · obtain rfl := Option.some.inj (htable.symm.trans htable')
    exact Nat.not_lt.2 hpast hlast

section
variable {m : WindowMsg} {s : State} {bs : List Byte} {n : Nat}

theorem takeTableOpen_of_opensWindow {t : TableId} (h : OpensWindow m t) :
    takeTableOpen n m s = setWindow (some ⟨t, m.first, m.last, m.first, n⟩) s := by
  obtain ⟨htable, hrows⟩ := h
  rw [takeTableOpen, htable]
  exact if_pos hrows

theorem takeTableOpen_of_not_opensWindow (h : ∀ t, ¬ OpensWindow m t) : takeTableOpen n m s = countRefusedOpen s := by
  cases htable : tableOf m.table with
  | none => rw [takeTableOpen, htable]
  | some t =>
    rw [takeTableOpen, htable]
    exact if_neg fun hrows => h t ⟨htable, hrows⟩

/-! ## A TABLE-DATA that no window takes (R153, R154) -/

theorem takeTableData_of_no_window (h : s.tbl.window = none) : takeTableData n bs s = countStray s := by
  rw [takeTableData, h]

theorem takeTableData_of_unfit {w : Window} (hwindow : s.tbl.window = some w)
    (h : w.sender ≠ n ∨ bs.length ≠ w.table.rowLength) : takeTableData n bs s = countStray s := by
  rw [takeTableData, hwindow]
  exact if_neg (not_and_or.2 h)

end

/-- Settles O42: the TABLE-OPEN by whether it names a window, and the TABLE-DATA by the window it finds. -/
theorem windowsOpenAndStraysCount : Obligations.WindowsOpenAndStraysCount := by
  intro n m bs s
  refine ⟨fun t htable horder hlast => ?opened, fun hbad => ?refused, fun hnone => ?no_window,
    fun w hwindow hunfit => ?unfit⟩
  case opened => exact congrArg Host.Outcome.next (takeTableOpen_of_opensWindow ⟨htable, horder, hlast⟩)
  case refused => exact congrArg Host.Outcome.next (takeTableOpen_of_not_opensWindow (not_opensWindow_of_refused hbad))
  case no_window => exact congrArg Host.Outcome.next (takeTableData_of_no_window hnone)
  case unfit => exact congrArg Host.Outcome.next (takeTableData_of_unfit hwindow hunfit)

end Sys2Proof.Machine
end

section
/-! The obligation about status: a QUERY and its REPORT (R192 to R194). First the counts that a REPORT is built from,
then the place it is offered to and the load window a frame ends; then the statement. -/

namespace Sys2Proof.Machine

/-! ## The counts of a REPORT (R145, R194) -/

/-- A counter adds its counts from the first on. -/
theorem counterOf_cons (a : Nat) (counts : List Nat) :
    counterOf (a :: counts) = min (counts.foldl (· + ·) a) 65535 := by
  rw [counterOf, List.sum_eq_foldl, List.foldl_cons, Nat.zero_add, Config.maxCount]

section
variable (s : State)

theorem State.busErrors_eq :
    s.busErrors = min (s.dbi.lengthErrors + s.dbi.checkwordErrors + s.dbi.senderZeroErrors + s.dbi.unknownKindErrors +
      s.dbi.classErrors + s.dbi.transmitErrors + s.rtk.badMarks + s.cfg.malformed) 65535 :=
  counterOf_cons _ _

theorem State.channelErrors_eq :
    s.channelErrors = min (s.rch.errors + s.rch.overruns + s.tch.errors + s.tch.overruns + s.sub.unknownUsage +
      s.prc.refusedHolds) 65535 :=
  counterOf_cons _ _

theorem State.dropCounter_eq :
    s.dropCounter = min (s.dbi.class1Drops + s.dbi.reportDrops + s.hov.departureDrops + s.hov.staleReleases +
      s.rch.drops + s.tch.drops) 65535 :=
  counterOf_cons _ _

theorem State.refusedCounter_eq : s.refusedCounter = min (s.tbl.refusedOpens + s.tbl.strayData) 65535 :=
  counterOf_cons _ _

/-- An entry that has shown no beacon disagrees about no leg. -/
theorem State.legDisagreement_eq :
    s.legDisagreement = s.prc.roster.countP (fun p => (p.state == .present || p.state == .quiet) &&
      (p.beacon.any fun b => b.leg != s.rtk.leg)) := by
  refine congrArg (List.countP · s.prc.roster) (funext fun p => ?_)
  cases p.beacon with
  | none => rfl
  | some b => rfl

end

/-! ## A REPORT offered, and a QUERY (R192) -/

section
variable {s : State}

theorem offerReport_of_room (hown : s.own ≠ 0) (hroom : s.dbi.reports.length < 2) (m : ReportMsg) :
    offerReport m s = { s with dbi := { s.dbi with reports := s.dbi.reports ++ [⟨m, 0, s.timebase⟩] } } := by
  rw [offerReport, State.listenOnly_of_own hown]
  exact if_pos hroom

theorem offerReport_of_full (hown : s.own ≠ 0) (hfull : 2 ≤ s.dbi.reports.length) (m : ReportMsg) :
    offerReport m s = { s with dbi := { s.dbi with reportDrops := min (s.dbi.reportDrops + 1) 65535 } } := by
  rw [offerReport, State.listenOnly_of_own hown]
  exact if_neg (Nat.not_lt.2 hfull)

/-- A QUERY that names another station, or none, is ignored. -/
theorem takeQuery_elsewhere {target : Nat} (h : target ≠ s.own ∨ target = 0) : takeQuery target s = s :=
  if_neg (by tauto)

theorem takeQuery_here {target : Nat} (htarget : target = s.own) (hzero : target ≠ 0) :
    takeQuery target s = offerReport s.buildReport s := if_pos ⟨htarget, hzero⟩

end

/-! ## The load window after a frame (R155) -/

/-- No load window of the frame's sender is open once the frame has been heard. -/
theorem endWindow_sender_ne {n : Nat} {s : State} {w : Window} (h : (endWindow n s).tbl.window = some w) :
    w.sender ≠ n := by
  unfold endWindow at h
  split at h
  case h_1 hnone => simp [hnone] at h
  case h_2 found hfound =>
    split at h
    case isTrue => simp at h
    case isFalse hother =>
      obtain rfl := Option.some.inj (hfound.symm.trans h)
      exact hother

/-- Settles O48: the REPORT by its counts, and the QUERY by its target and the places that are free. -/
theorem queryIsAnsweredByAReport : Obligations.QueryIsAnsweredByAReport := by
  refine ⟨fun s => ?contents, fun n target s =>
    ⟨fun helse => congrArg Host.Outcome.next (takeQuery_elsewhere helse), fun htarget hzero => ?answer, rfl,
      fun _ => endWindow_sender_ne⟩⟩
  case contents =>
    rw [← s.busErrors_eq, ← s.channelErrors_eq, ← s.dropCounter_eq, ← s.refusedCounter_eq,
      ← s.legDisagreement_eq]
    rfl
  case answer =>
    have hown : (hear n s).own ≠ 0 := htarget ▸ hzero
    have hexec : exec (.query n (some target)) s = .next (offerReport (hear n s).buildReport (hear n s)) :=
      congrArg Host.Outcome.next (takeQuery_here htarget hzero)
    rw [hexec]
    exact ⟨fun hroom => congrArg Host.Outcome.next (offerReport_of_room hown hroom _),
      fun hfull => congrArg Host.Outcome.next (offerReport_of_full hown hfull _)⟩

end Sys2Proof.Machine
end

section
/-! The commands as functions, and the blocks each may touch. First what `exec` answers; then the frames of the commands;
then the shape every invariant's proof has: it survives the queue, the millisecond and each command. -/

-- One theorem after another: all at once take more threads than the check's memory holds.
set_option Elab.async false

namespace Sys2Proof.Machine

/-! ## Every command has its effect -/

/-- Every meaning answers with a next state, which `afterCommand` names. -/
theorem exec_eq_next (c : Instr) (s : State) : exec c s = .next (afterCommand c s) := by
  cases c with
  | waypoint n leg => cases leg <;> rfl
  | claimHeard n key => cases key <;> rfl
  | releaseHeard n msg => cases msg <;> rfl
  | beaconHeard n msg =>
    simp only [exec, afterCommand, execBeaconHeard]
    cases soundBeacon msg <;> rfl
  | tableOpen n msg => cases msg <;> rfl
  | drainRequest n msg => cases msg <;> rfl
  | query n target => cases target <;> rfl
  | restartIgnored n msg => cases msg <;> rfl
  | _ => rfl

theorem afterCommand_of_exec {c : Instr} {s t : State} (h : exec c s = .next t) : afterCommand c s = t := by
  rw [afterCommand, h]

/-! ## Frames of the commands (R163 to R195) -/

theorem within_refl (bs : List Block) : within bs bs = true :=
  List.all_eq_true.2 fun b hb => List.any_eq_true.2 ⟨b, hb, decide_eq_true rfl⟩

/-- What the hearing of a frame may touch. -/
abbrev hearBlocks : List Block := [.prc, .slc, .tch, .dbi, .rch, .tbl]

/-- What a restart may touch. -/
abbrev restartBlocks : List Block := [.sub, .hov, .bsd, .rtk, .slc, .prc, .tbl, .dbi, .rch, .tch, .cfg]

/-- What a leg evaluation may touch. -/
abbrev routeBlocks : List Block := [.rtk, .sub, .hov, .bsd, .slc, .prc, .dbi, .rch, .tch]

/-- The blocks that a command may touch. -/
def blocksOf : Instr → List Block
  | .powerOn _ => .timebase :: .pins :: restartBlocks
  | .restartCold .. | .restartWarm .. | .restartPin .. => restartBlocks
  | .waypoint .. => .cfg :: .tbl :: routeBlocks
  | .waypointOrigin .. => .tbl :: routeBlocks
  | .claimHeard .. => .cfg :: .sub :: .hov :: .bsd :: hearBlocks
  | .releaseHeard .. => .cfg :: .sub :: .hov :: hearBlocks
  | .linkCarryHeard .. => .sub :: .bsd :: hearBlocks
  | .linkDrainHeard .. | .linkDownHeard .. => hearBlocks
  | .beaconHeard .. => .cfg :: .sub :: .bsd :: hearBlocks
  | .tableOpen .. => .cfg :: hearBlocks
  | .tableData .. => .tbl :: routeBlocks
  | .drainRequest .. => .cfg :: .bsd :: hearBlocks
  | .query .. | .restartIgnored .. | .malformedLinkFrame .. => .cfg :: hearBlocks
  | .billHeard .. | .drainEndHeard .. | .reportHeard .. => hearBlocks
  | .frameReceiveError .. | .frameStart | .arbitrationLost | .lineLost => [.dbi]
  | .frameSent .. => .sub :: .hov :: .bsd :: hearBlocks
  | .beaconTime => [.prc, .sub, .bsd, .dbi, .rch]
  | .listenPeriodEnd => [.sub, .hov, .bsd, .slc, .prc, .dbi, .rch, .tch]
  | .dwellExpiry | .returnHoldExpiry .. | .healthDeadlinePassed | .radioSilenceExpiry => [.prc, .rch]
  | .slipFlagExpiry => [.rtk]
  | .departureExpiry => [.hov]
  | .peerQuiet .. | .peerLost .. => [.prc, .slc, .tch, .dbi, .rch]
  | .orphanTimerExpiry => [.prc, .sub, .hov, .bsd, .rch]
  | .settleTimerExpiry | .drainTimerExpiry | .retryTimerExpiry | .terminalSilenceExpiry => [.slc, .tch, .dbi]
  | .channelBreak .radio => [.prc, .rch]
  | .channelBreak .terminal => [.slc, .tch, .dbi]
  | .channelMessageError .. | .channelOverrun .. | .directiveSent .. | .markHoldAfterRestartEnd .. => [.rch, .tch]
  | .attach .. => [.sub, .hov, .bsd, .dbi, .rch]
  | .detach .. => [.sub, .hov, .bsd, .rch]
  | .usage .. => [.sub, .bsd, .rch]
  | .health => [.sub, .hov, .bsd, .prc, .rch]
  | .hold => [.prc, .rch]
  | .statusUp | .statusDown | .statusIdle | .quality .. => [.slc, .tch, .dbi]
  | .radioHoldLineAsserted | .radioHoldLineReleased => [.pins, .rch]
  | .terminalHoldLineChange .. => [.pins, .slc, .dbi]

theorem Touches.pins (s : State) (a b : Bool) :
    Touches [.pins] s { s with radioHold := a, terminalHold := b } := by
  intro x hx; cases x <;> simp_all [Block.same]

theorem loseRadio_touches (s : State) : Touches [.prc, .rch] s (loseRadio s) := by
  unfold loseRadio; split
  · exact (Touches.rch s { s.rch with up := false }).comp (radioLost_touches _)
  · exact .refl _ _

theorem loseTerminal_touches (s : State) : Touches [.slc, .tch, .dbi] s (loseTerminal s) := by
  unfold loseTerminal; split
  · exact (Touches.tch s { s.tch with up := false }).comp (failActivated_touches _)
  · exact .refl _ _

theorem fromTerminal_touches {f : State → State} (hf : ∀ s, Touches [.slc, .tch, .dbi] s (f s)) (s : State) :
    Touches [.slc, .tch, .dbi] s (fromTerminal f s) :=
  .ite _ ((terminalGood_touches s).comp (hf _)) (.refl _ _)

theorem headerWritten_touches (s : State) : Touches routeBlocks s (headerWritten s) := by
  unfold headerWritten
  dsimp only
  refine .ite _ (.comp (as := [.rtk]) ?_ (legEvaluation_touches _))
    (.ite _ (.comp (as := [.rtk]) ?_ (legEvaluation_touches _)) (legEvaluation_touches _))
  · exact (Touches.rtk s _).comp (countSlip_touches _)
  · exact (Touches.rtk s _).comp (countSlip_touches _)

theorem notice_touches (t : TableId) (i : Nat) (s : State) : Touches routeBlocks s (notice t i s) := by
  cases t with
  | zone => exact .ite _ (queueRadio_touches _ _).mono (.refl _ _)
  | tariff => exact .refl _ _
  | partner => exact (recheckRow_touches _ _).mono
  | route =>
    cases i with
    | zero => exact (headerWritten_touches s).comp (evaluate_touches _)
    | succ j => exact legEvaluation_touches _
  | link => exact (evaluate_touches _).mono
  | silence => exact (evaluateSilence_touches _).mono

theorem takeTableData_touches (n : Nat) (bs : List Byte) (s : State) :
    Touches (.tbl :: routeBlocks) s (takeTableData n bs s) := by
  unfold takeTableData; split
  · exact (Touches.tbl s _).mono
  · refine .ite _ ?_ (Touches.tbl s _).mono
    exact ((Touches.tbl s _).comp (notice_touches _ _ _) (cs := .tbl :: routeBlocks)).comp (setWindow_touches _ _)

theorem takeDrainRequest_touches (target count : Nat) (s : State) :
    Touches [.bsd, .dbi] s (takeDrainRequest target count s) := .ite _ (requestDrain_touches _ _) (.refl _ _)

theorem takeQuery_touches (target : Nat) (s : State) : Touches [.dbi] s (takeQuery target s) :=
  .ite _ (offerReport_touches _ _) (.refl _ _)

theorem restartPorts_touches (b : Board) (s : State) : Touches [.slc, .dbi, .rch, .tch, .cfg] s (restartPorts b s) := by
  intro x hx; cases x <;> simp_all [Block.same, restartPorts]

theorem restartRtkWarm_touches (s : State) : Touches [.rtk, .prc] s (restartRtkWarm s) := by
  intro x hx; cases x <;> simp_all [Block.same, restartRtkWarm]

theorem restartTblWarm_touches (s : State) : Touches [.tbl] s (restartTblWarm s) := .tbl s _

theorem restartSubWarm_touches (s : State) : Touches [.sub, .hov, .bsd, .rch] s (restartSubWarm s) := by
  unfold restartSubWarm
  dsimp only
  exact (sweep_touches _ _ s).comp (Touches.sub _ _)

theorem restartHovWarm_touches (s : State) : Touches [.hov] s (restartHovWarm s) := .hov s _

theorem restartBsdWarm_touches (s : State) : Touches [.bsd, .dbi] s (restartBsdWarm s) := by
  unfold restartBsdWarm; split
  · exact .refl _ _
  · exact endDrain_touches _ _ _
  · exact endDrain_touches _ _ _

/-- The state that a warm restart has before shore link control takes its step (R190, steps 1 to 8). -/
def warmBlocks (b : Board) (s : State) : State :=
  restartBsdWarm (restartHovWarm (restartSubWarm (restartRtkWarm (restartTblWarm (restartPorts b s)))))

theorem restartWarmNow_eq (b : Board) (s : State) : restartWarmNow b s = restartPrc (restartSlc (warmBlocks b s)) := rfl

/-- The state that RESTART COLD has before shore link control takes its step. -/
def coldBlocks (b : Board) (s : State) : State :=
  { s with
    tbl := .reset, rtk := .reset, sub := .reset, hov := .reset, bsd := .reset
    slc := { s.slc with hold := s.terminalHold && terminalStraps b.straps, ratingLink := 0 }
    dbi := .reset, rch := .reset, radioFault := false, tch := .reset, cfg := restartCfg b }

theorem restartColdNow_eq (b : Board) (s : State) : restartColdNow b s = restartPrc (restartSlc (coldBlocks b s)) := rfl

theorem warmBlocks_touches (b : Board) (s : State) : Touches restartBlocks s (warmBlocks b s) :=
  (((((restartPorts_touches b s).comp (restartTblWarm_touches _) (cs := restartBlocks)).comp (restartRtkWarm_touches _)
    (cs := restartBlocks)).comp (restartSubWarm_touches _) (cs := restartBlocks)).comp (restartHovWarm_touches _)
    (cs := restartBlocks)).comp (restartBsdWarm_touches _)

theorem restartWarmNow_touches (b : Board) (s : State) : Touches restartBlocks s (restartWarmNow b s) :=
  ((warmBlocks_touches b s).comp (restartSlc_touches _) (cs := restartBlocks)).comp (restartPrc_touches _)

theorem restartColdNow_touches (b : Board) (s : State) : Touches restartBlocks s (restartColdNow b s) := by
  have hcold : Touches restartBlocks s (coldBlocks b s) := by
    intro x hx; cases x <;> simp_all [Block.same, coldBlocks]
  exact (hcold.comp (restartSlc_touches _) (cs := restartBlocks)).comp (restartPrc_touches _)

theorem powerOnNow_touches (p : Pins) (s : State) :
    Touches (.timebase :: .pins :: restartBlocks) s (powerOnNow p s) := by
  intro x hx; cases x <;> simp_all [Block.same, powerOnNow]

theorem class1Sent_touches (s : State) : Touches [.dbi, .hov, .sub] s (class1Sent s) := by
  unfold class1Sent; split
  · exact .refl _ _
  · dsimp only; split
    · exact (Touches.dbi s _).comp (forgetClaim_touches _ _)
    · exact (Touches.dbi s _).mono

theorem takeSending_touches (q : TxQueue) (s : State) : Touches [.dbi, .hov, .sub, .bsd] s (takeSending q s) := by
  cases q with
  | class1 => exact (class1Sent_touches s).mono
  | link => exact (Touches.dbi s _).mono
  | beacon => exact (Touches.dbi s _).mono
  | bill =>
    simp only [takeSending]; split
    · exact .refl _ _
    · exact (Touches.dbi s _).comp (billSent_touches _ _)
  | drainEnd =>
    simp only [takeSending]; split
    · exact .refl _ _
    · exact (Touches.dbi s _).comp (drainEndSent_touches _)
  | report => exact (Touches.dbi s _).mono

theorem ownContent_touches (q : TxQueue) (before : Dbi) (s : State) :
    Touches [.sub, .bsd, .slc, .tch, .dbi, .rch] s (ownContent q before s) := by
  unfold ownContent; split
  · split
    · exact takeLink_touches _ _ _
    · exact .refl _ _
  · split
    · split
      · exact takeBeaconLink_touches _ _ _
      · exact .refl _ _
    · exact .refl _ _
  all_goals exact .refl _ _

theorem receiveOwn_touches (q : TxQueue) (before : Dbi) (d : Option RxCheck) (s : State) :
    Touches (.sub :: .bsd :: hearBlocks) s (receiveOwn q before d s) := by
  cases d with
  | some c => exact (Touches.dbi s _).mono
  | none => exact (hear_touches _ s).comp (ownContent_touches _ _ _)

theorem frameSent_touches (d : Option RxCheck) (s : State) :
    Touches (.sub :: .hov :: .bsd :: hearBlocks) s (frameSent d s) := by
  unfold frameSent; split
  · exact .refl _ _
  · exact ((Touches.dbi s _).comp (takeSending_touches _ _) (cs := [.dbi, .hov, .sub, .bsd])).comp
      (receiveOwn_touches _ _ _ _)

theorem startFrame_touches (s : State) : Touches [.dbi] s (startFrame s) := by
  unfold startFrame; split
  · exact .refl _ _
  · split
    · exact .refl _ _
    · exact .dbi s _

theorem beaconTime_touches (s : State) : Touches [.prc, .sub, .bsd, .dbi, .rch] s (beaconTime s) := by
  unfold beaconTime; split
  · exact .refl _ _
  · exact .ite _ ((Touches.prc s _).comp (beaconAt_touches _)) (.refl _ _)

theorem returnHoldExpired_touches (p : Nat) (s : State) : Touches [.prc, .rch] s (returnHoldExpired p s) :=
  .ite _ (removeCover_touches _ _) (.refl _ _)

theorem departureExpired_touches (s : State) : Touches [.hov] s (departureExpired s) := by
  unfold departureExpired; split
  · exact .refl _ _
  · exact .ite _ (.hov s _) (.refl _ _)

theorem takeLink_drain_touches (n link : Nat) (hold : Bool) (s : State) :
    Touches [.slc, .tch, .dbi, .rch] s (takeLink n ⟨link, hold, .drain⟩ s) := clearViewOf_touches _ _

theorem takeLink_down_touches (n link : Nat) (hold failed : Bool) (s : State) :
    Touches [.slc, .tch, .dbi, .rch] s (takeLink n ⟨link, hold, .down failed⟩ s) := clearViewOf_touches _ _

theorem messageError_touches (ch : Channel) (e : MessageError) (s : State) :
    Touches [.rch, .tch] s (messageError ch e s) := by
  unfold messageError; split
  · exact .refl _ _
  · split
    · exact (Touches.rch s _).mono
    · exact .ite _ (Touches.tch s _).mono (.refl _ _)

theorem overrun_touches (ch : Channel) (s : State) : Touches [.rch, .tch] s (overrun ch s) := by
  cases ch with
  | radio => exact (Touches.rch s _).mono
  | terminal => exact .ite _ (Touches.tch s _).mono (.refl _ _)

theorem directiveSent_touches (ch : Channel) (s : State) : Touches [.rch, .tch] s (directiveSent ch s) := by
  cases ch with
  | radio =>
    refine .ite _ ?_ (.refl _ _)
    intro x hx; cases x <;> simp_all [Block.same]
  | terminal => exact (Touches.tch s _).mono

theorem markHoldEnd_touches (ch : Channel) (s : State) : Touches [.rch, .tch] s (markHoldEnd ch s) := by
  cases ch with
  | radio => exact (Touches.rch s _).mono
  | terminal => exact (Touches.tch s _).mono

theorem terminalHoldLine_touches (asserted : Bool) (s : State) :
    Touches [.pins, .slc, .dbi] s (terminalHoldLine asserted s) := by
  have hpin : Touches [.pins] s { s with terminalHold := asserted } := .pins s s.radioHold asserted
  exact .ite _ (hpin.comp (takeTerminalHold_touches _ _)) hpin.mono

/-- No command touches more than its blocks. -/
theorem afterCommand_touches (c : Instr) (s : State) : Touches (blocksOf c) s (afterCommand c s) := by
  cases c with
  | powerOn p => exact powerOnNow_touches p s
  | restartCold n x b =>
    exact ((hear_touches n s).mono (bs := restartBlocks)).trans (.ite _ (restartColdNow_touches _ _) (.refl _ _))
  | restartWarm n x b =>
    exact ((hear_touches n s).mono (bs := restartBlocks)).trans (.ite _ (restartWarmNow_touches _ _) (.refl _ _))
  | restartPin b => exact restartWarmNow_touches b s
  | waypoint n leg =>
    cases leg with
    | none => exact (hear_touches n s).comp (countMalformed_touches _)
    | some l => exact (hear_touches n s).comp (takeMark_touches _ _)
  | waypointOrigin n => exact (hear_touches n s).comp (takeOrigin_touches _)
  | claimHeard n key =>
    cases key with
    | none => exact (hear_touches n s).comp (countMalformed_touches _)
    | some k => exact (hear_touches n s).comp (takeClaim_touches _ _ _)
  | releaseHeard n msg =>
    cases msg with
    | none => exact (hear_touches n s).comp (countMalformed_touches _)
    | some m => exact (hear_touches n s).comp (takeRelease_touches _ _)
  | linkCarryHeard n link hold => exact (hear_touches n s).comp (takeLink_touches _ _ _)
  | linkDrainHeard n link hold => exact (hear_touches n s).comp (takeLink_drain_touches n link hold _)
  | linkDownHeard n link hold failed => exact (hear_touches n s).comp (takeLink_down_touches n link hold failed _)
  | beaconHeard n msg =>
    simp only [afterCommand, exec, execBeaconHeard]
    cases soundBeacon msg with
    | none => exact (hear_touches n s).comp (countMalformed_touches _)
    | some m =>
      exact ((heardFrom_touches n (some m) s).comp (endWindow_touches _ _) (cs := hearBlocks)).comp
        (takeBeaconLink_touches _ _ _)
  | tableOpen n msg =>
    cases msg with
    | none => exact (heardFrom_touches n none s).comp (countMalformed_touches _)
    | some m => exact (heardFrom_touches n none s).comp (takeTableOpen_touches _ _ _)
  | tableData n row => exact (heardFrom_touches n none s).comp (takeTableData_touches _ _ _)
  | drainRequest n msg =>
    cases msg with
    | none => exact (hear_touches n s).comp (countMalformed_touches _)
    | some q => exact (hear_touches n s).comp (takeDrainRequest_touches _ _ _)
  | query n target =>
    cases target with
    | none => exact (hear_touches n s).comp (countMalformed_touches _)
    | some t => exact (hear_touches n s).comp (takeQuery_touches _ _)
  | billHeard n => exact hear_touches n s
  | drainEndHeard n => exact hear_touches n s
  | reportHeard n => exact hear_touches n s
  | frameReceiveError check => exact .dbi s _
  | frameStart => exact startFrame_touches s
  | arbitrationLost => exact .dbi s _
  | lineLost => exact .dbi s _
  | frameSent d => exact frameSent_touches d s
  | beaconTime => exact beaconTime_touches s
  | listenPeriodEnd => exact .ite _ (leaveStarting_touches s) (.refl _ _)
  | dwellExpiry => exact dwellExpired_touches s
  | slipFlagExpiry => exact .ite _ (.rtk s _) (.refl _ _)
  | departureExpiry => exact departureExpired_touches s
  | peerQuiet p => exact peerQuiet_touches p s
  | peerLost p => exact peerLost_touches p s
  | returnHoldExpiry p => exact returnHoldExpired_touches p s
  | healthDeadlinePassed => exact deadlinePassed_touches s
  | orphanTimerExpiry => exact orphanExpired_touches s
  | settleTimerExpiry => exact .ite _ (settled_touches s) (.refl _ _)
  | drainTimerExpiry => exact .ite _ (linkDrained_touches s) (.refl _ _)
  | retryTimerExpiry => exact .ite _ (enterOff_touches s) (.refl _ _)
  | radioSilenceExpiry => exact .ite _ (loseRadio_touches s) (.refl _ _)
  | terminalSilenceExpiry => exact .ite _ (loseTerminal_touches s) (.refl _ _)
  | channelBreak ch =>
    cases ch with
    | radio => exact (Touches.rch s _).comp (loseRadio_touches _)
    | terminal => exact .ite _ ((Touches.tch s _).comp (loseTerminal_touches _)) (.refl _ _)
  | channelMessageError ch e => exact messageError_touches ch e s
  | channelOverrun ch => exact overrun_touches ch s
  | attach key home v => exact (radioGood_touches s).comp (attach_touches _ _ _ _)
  | detach key => exact (radioGood_touches s).comp (takeDetach_touches _ _)
  | usage key data voice => exact (radioGood_touches s).comp (takeUsage_touches _ _ _ _)
  | health => exact (radioGood_touches s).comp (takeHealth_touches _)
  | hold => exact (radioGood_touches s).comp (takeHold_touches _)
  | statusUp => exact fromTerminal_touches (fun _ => .refl _ _) s
  | statusDown => exact fromTerminal_touches (fun _ => (failActivated_touches _).mono) s
  | statusIdle => exact fromTerminal_touches (fun _ => .ite _ (linkDrained_touches _) (.refl _ _)) s
  | quality score => exact fromTerminal_touches (fun _ => (takeQuality_touches _ _).mono) s
  | radioHoldLineAsserted => exact (Touches.pins s true s.terminalHold).mono
  | radioHoldLineReleased =>
    exact (Touches.pins s false s.terminalHold).comp (Touches.rch { s with radioHold := false } _)
  | terminalHoldLineChange asserted => exact terminalHoldLine_touches asserted s
  | directiveSent ch => exact directiveSent_touches ch s
  | restartIgnored n msg =>
    cases msg with
    | none => exact (hear_touches n s).comp (countMalformed_touches _)
    | some q => exact (hear_touches n s).comp (.ite _ (countMalformed_touches _) (.refl _ _))
  | malformedLinkFrame n => exact (hear_touches n s).comp (countMalformed_touches _)
  | markHoldAfterRestartEnd ch => exact markHoldEnd_touches ch s

/-! ## Invariants -/

/-- A step is a millisecond or the command at the front, run on the rest of the queue. -/
theorem step_cases {s t : State} (h : step s = .next t) :
    t = tick s ∨ ∃ c rest, t = afterCommand c { s with pending := rest } := by
  unfold step at h
  split at h
  · exact .inl (by simpa using h.symm)
  · rename_i c rest _
    exact .inr ⟨c, rest, (afterCommand_of_exec h).symm⟩

/-- A law that neither the queue nor the timebase bears on is kept by every step where every command keeps it. -/
theorem step_keeps {P Q : State → Prop} (hqueue : ∀ s rest, P s → P { s with pending := rest })
    (htick : ∀ s, P s → Q (tick s)) (hcommand : ∀ c s, P s → Q (afterCommand c s)) :
    ∀ s t : State, P s → step s = .next t → Q t := by
  intro s t hs hstep
  obtain rfl | ⟨c, rest, rfl⟩ := step_cases hstep
  · exact htick s hs
  · exact hcommand c _ (hqueue s rest hs)

/-! ## The machine's own rules (R191) -/

theorem step_of_empty {s : State} (h : s.pending = []) : step s = .next (tick s) := by
  unfold step
  split
  · rfl
  · simp_all

/-- Settles O1: `step` unfolded at a queue with a front, and at an empty one. -/
theorem stepTakesTheFrontCommand : Obligations.StepTakesTheFrontCommand :=
  ⟨fun _ _ _ => rfl, fun _ h => step_of_empty h⟩

theorem timebase_notMem_blocksOf {c : Instr} (h : ∀ p, c ≠ .powerOn p) : Block.timebase ∉ blocksOf c := by
  cases c with
  | powerOn p => exact absurd rfl (h p)
  | channelBreak ch => cases ch <;> decide
  | _ => simp [blocksOf]

theorem pending_notMem_blocksOf (c : Instr) : Block.pending ∉ blocksOf c := by
  cases c with
  | channelBreak ch => cases ch <;> decide
  | _ => simp [blocksOf]

/-- Settles O2: the next state is `afterCommand`'s, and its frame leaves the queue and, but at POWER_ON, the timebase. -/
theorem everyCommandEndsInANextState : Obligations.EveryCommandEndsInANextState := fun c s =>
  ⟨afterCommand c s, exec_eq_next c s, afterCommand_touches c s .pending (pending_notMem_blocksOf c),
    fun h => afterCommand_touches c s .timebase (timebase_notMem_blocksOf h)⟩

end Sys2Proof.Machine
end

section
/-! The proof of an invariant, once for all of them. The commands are made of some forty parts; a law says which blocks it
rests on and answers for the parts that may touch them, and every command, and so every step, keeps it. -/

-- One theorem after another: all at once take more threads than the check's memory holds.
set_option Elab.async false

namespace Sys2Proof.Machine

/-- None of these blocks is one that the law rests on. -/
def apart (bs law : List Block) : Bool := bs.all (fun b => law.all (fun d => decide (b ≠ d)))

theorem same_of_apart {bs law : List Block} {s t : State} (h : Touches bs s t) (ha : apart bs law = true) :
    ∀ b ∈ law, b.same s t := fun b hb =>
  h b fun hmem => of_decide_eq_true (List.all_eq_true.1 (List.all_eq_true.1 ha b hmem) b hb) rfl

/-- A law that the parts which run before others keep: the hearing of a frame, a good message, and the sending of the
part's own frame. -/
structure KeptBefore (I : State → Prop) : Prop where
  heardFrom : ∀ n m s, I s → I (heardFrom n m s)
  endWindow : ∀ n s, I s → I (endWindow n s)
  radio : ∀ s c, I s → I { s with rch := c }
  terminal : ∀ s c, I s → I { s with tch := c }
  sending : ∀ q s, I s → I (takeSending q { s with dbi := { s.dbi with onLine := none } })

theorem keptBefore_true : KeptBefore fun _ => True where
  heardFrom _ _ _ _ := trivial
  endWindow _ _ _ := trivial
  radio _ _ _ := trivial
  terminal _ _ _ := trivial
  sending _ _ _ := trivial

/-- A law `P` of the blocks `law` that, in the states of `I`, each part of the commands keeps. A part that is apart from the
law's blocks needs no word. -/
structure KeptByParts (law : List Block) (I P : State → Prop) : Prop where
  frame : ∀ {s t}, (∀ b ∈ law, b.same s t) → P s → P t
  powerOn : ∀ p s, I s → P s → P (powerOnNow p s)
  restartCold : ∀ b s, I s → P s → P (restartColdNow b s)
  restartWarm : ∀ b s, I s → P s → P (restartWarmNow b s)
  heardFrom : apart [.prc, .slc, .tch, .dbi, .rch] law = true ∨ ∀ n m s, I s → P s → P (heardFrom n m s) := by
    exact Or.inl rfl
  endWindow : apart [.tbl] law = true ∨ ∀ n s, I s → P s → P (endWindow n s) := by exact Or.inl rfl
  malformed : apart [.cfg] law = true ∨ ∀ s, I s → P s → P (countMalformed s) := by exact Or.inl rfl
  takeMark : apart routeBlocks law = true ∨ ∀ l s, I s → P s → P (takeMark l s) := by exact Or.inl rfl
  takeOrigin : apart routeBlocks law = true ∨ ∀ s, I s → P s → P (takeOrigin s) := by exact Or.inl rfl
  takeClaim : apart [.sub, .hov, .bsd, .dbi, .rch] law = true ∨ ∀ n k s, I s → P s → P (takeClaim n k s) := by
    exact Or.inl rfl
  takeRelease : apart [.sub, .hov, .rch] law = true ∨ ∀ m s, I s → P s → P (takeRelease m s) := by exact Or.inl rfl
  hearCarrying : apart [.sub, .bsd, .slc, .tch, .dbi, .rch] law = true ∨
    ∀ c hold s, I s → P s → P (hearCarrying c hold s) := by exact Or.inl rfl
  clearViewOf : apart [.slc, .tch, .dbi, .rch] law = true ∨ ∀ n s, I s → P s → P (clearViewOf n s) := by
    exact Or.inl rfl
  takeTableOpen : apart [.tbl] law = true ∨ ∀ n m s, I s → P s → P (takeTableOpen n m s) := by exact Or.inl rfl
  takeTableData : apart (.tbl :: routeBlocks) law = true ∨ ∀ n bs s, I s → P s → P (takeTableData n bs s) := by
    exact Or.inl rfl
  takeDrainRequest : apart [.bsd, .dbi] law = true ∨ ∀ x n s, I s → P s → P (takeDrainRequest x n s) := by
    exact Or.inl rfl
  takeQuery : apart [.dbi] law = true ∨ ∀ x s, I s → P s → P (takeQuery x s) := by exact Or.inl rfl
  receiveError : apart [.dbi] law = true ∨ ∀ c s, I s → P s → P { s with dbi := countReceiveError c s.dbi } := by
    exact Or.inl rfl
  startFrame : apart [.dbi] law = true ∨ ∀ s, I s → P s → P (startFrame s) := by exact Or.inl rfl
  loseFrame : apart [.dbi] law = true ∨ ∀ s, I s → P s → P { s with dbi := loseFrame s.dbi } := by exact Or.inl rfl
  loseLine : apart [.dbi] law = true ∨ ∀ s, I s → P s → P { s with dbi := loseLine s.dbi } := by exact Or.inl rfl
  sending : apart [.dbi, .hov, .sub, .bsd] law = true ∨
    ∀ q s, I s → P s → s.dbi.onLine = some q → P (takeSending q { s with dbi := { s.dbi with onLine := none } }) := by
    exact Or.inl rfl
  beaconTime : apart [.prc, .sub, .bsd, .dbi, .rch] law = true ∨ ∀ s, I s → P s → P (beaconTime s) := by
    exact Or.inl rfl
  leaveStarting : apart [.sub, .hov, .bsd, .slc, .prc, .dbi, .rch, .tch] law = true ∨
    ∀ s, I s → P s → due s.prc.listenUntil s.timebase = true → s.prc.serving = .starting → P (leaveStarting s) := by
    exact Or.inl rfl
  dwellExpired : apart [.prc, .rch] law = true ∨ ∀ s, I s → P s → P (dwellExpired s) := by exact Or.inl rfl
  slipFlagExpired : apart [.rtk] law = true ∨ ∀ s, I s → P s → P (slipFlagExpired s) := by exact Or.inl rfl
  departureExpired : apart [.hov] law = true ∨ ∀ s, I s → P s → P (departureExpired s) := by exact Or.inl rfl
  peerQuiet : apart [.prc, .slc, .tch, .dbi, .rch] law = true ∨ ∀ p s, I s → P s → P (peerQuiet p s) := by
    exact Or.inl rfl
  peerLost : apart [.prc, .slc, .tch, .dbi, .rch] law = true ∨ ∀ p s, I s → P s → P (peerLost p s) := by
    exact Or.inl rfl
  returnHoldExpired : apart [.prc, .rch] law = true ∨ ∀ p s, I s → P s → P (returnHoldExpired p s) := by
    exact Or.inl rfl
  deadlinePassed : apart [.prc, .rch] law = true ∨ ∀ s, I s → P s → P (deadlinePassed s) := by exact Or.inl rfl
  orphanExpired : apart [.prc, .sub, .hov, .bsd, .rch] law = true ∨ ∀ s, I s → P s → P (orphanExpired s) := by
    exact Or.inl rfl
  settled : apart [.slc, .tch, .dbi] law = true ∨ ∀ s, I s → P s → s.slc.phase = .settling → P (settled s) := by
    exact Or.inl rfl
  linkDrained : apart [.slc, .tch, .dbi] law = true ∨
    ∀ s, I s → P s → s.slc.phase = .draining → P (linkDrained s) := by exact Or.inl rfl
  retryExpired : apart [.slc, .tch, .dbi] law = true ∨ ∀ s, I s → P s → s.slc.phase = .failed → P (enterOff s) := by
    exact Or.inl rfl
  loseRadio : apart [.prc, .rch] law = true ∨ ∀ s, I s → P s → P (loseRadio s) := by exact Or.inl rfl
  loseTerminal : apart [.slc, .tch, .dbi] law = true ∨ ∀ s, I s → P s → P (loseTerminal s) := by exact Or.inl rfl
  radioGood : apart [.rch] law = true ∨ ∀ s, I s → P s → P (radioGood s) := by exact Or.inl rfl
  terminalGood : apart [.tch] law = true ∨ ∀ s, I s → P s → P (terminalGood s) := by exact Or.inl rfl
  huntRadio : apart [.rch] law = true ∨ ∀ s, I s → P s → P { s with rch := s.rch.hunt } := by exact Or.inl rfl
  huntTerminal : apart [.tch] law = true ∨ ∀ s, I s → P s → P { s with tch := s.tch.hunt } := by exact Or.inl rfl
  messageError : apart [.rch, .tch] law = true ∨ ∀ ch e s, I s → P s → P (messageError ch e s) := by exact Or.inl rfl
  overrun : apart [.rch, .tch] law = true ∨ ∀ ch s, I s → P s → P (overrun ch s) := by exact Or.inl rfl
  directiveSent : apart [.rch, .tch] law = true ∨ ∀ ch s, I s → P s → P (directiveSent ch s) := by exact Or.inl rfl
  markHoldEnd : apart [.rch, .tch] law = true ∨ ∀ ch s, I s → P s → P (markHoldEnd ch s) := by exact Or.inl rfl
  holdAsserted : apart [.pins] law = true ∨ ∀ s, I s → P s → P { s with radioHold := true } := by exact Or.inl rfl
  holdReleased : apart [.pins, .rch] law = true ∨ ∀ s, I s → P s → P (startRadio { s with radioHold := false }) := by
    exact Or.inl rfl
  terminalHoldLine : apart [.pins, .slc, .dbi] law = true ∨ ∀ x s, I s → P s → P (terminalHoldLine x s) := by
    exact Or.inl rfl
  attach : apart [.sub, .hov, .bsd, .dbi, .rch] law = true ∨ ∀ k h v s, I s → P s → P (attach k h v s) := by
    exact Or.inl rfl
  takeDetach : apart [.sub, .hov, .bsd, .rch] law = true ∨ ∀ k s, I s → P s → P (takeDetach k s) := by
    exact Or.inl rfl
  takeUsage : apart [.sub, .bsd, .rch] law = true ∨ ∀ k d v s, I s → P s → P (takeUsage k d v s) := by
    exact Or.inl rfl
  takeHealth : apart [.sub, .hov, .bsd, .prc, .rch] law = true ∨ ∀ s, I s → P s → P (takeHealth s) := by
    exact Or.inl rfl
  takeHold : apart [.prc] law = true ∨ ∀ s, I s → P s → P (takeHold s) := by exact Or.inl rfl
  failActivated : apart [.slc, .tch, .dbi] law = true ∨ ∀ s, I s → P s → P (failActivated s) := by exact Or.inl rfl
  takeQuality : apart [.slc, .tch, .dbi] law = true ∨ ∀ q s, I s → P s → P (takeQuality q s) := by exact Or.inl rfl

namespace KeptByParts
variable {law : List Block} {I P : State → Prop} (hP : KeptByParts law I P)
include hP

/-- A part keeps the law, touching none of its blocks or by the law's own word. -/
theorem part {bs : List Block} {Q : Prop} {s t : State} (h : apart bs law = true ∨ Q) (ht : Touches bs s t)
    (hs : P s) (hQ : Q → P t) : P t :=
  h.elim (fun ha => hP.frame (same_of_apart ht ha) hs) hQ

/-- A law kept by the parts is kept by every command. -/
theorem afterCommand (hI : KeptBefore I) (c : Instr) (s : State) (hi : I s) (hs : P s) : P (afterCommand c s) := by
  have heardI : ∀ n m, I (Machine.heardFrom n m s) := fun n m => hI.heardFrom n m s hi
  have heard : ∀ n m, P (Machine.heardFrom n m s) := fun n m =>
    hP.part hP.heardFrom (heardFrom_touches n m s) hs fun h => h n m s hi hs
  have hearI : ∀ n, I (hear n s) := fun n => hI.endWindow n _ (heardI n none)
  have window : ∀ n u, I u → P u → P (Machine.endWindow n u) := fun n u hu h =>
    hP.part hP.endWindow (endWindow_touches n u) h fun h' => h' n u hu h
  have hear : ∀ n, P (hear n s) := fun n => window n _ (heardI n none) (heard n none)
  have malformed : ∀ u, I u → P u → P (countMalformed u) := fun u hu h =>
    hP.part hP.malformed (countMalformed_touches u) h fun h' => h' u hu h
  have carrying : ∀ x hold u, I u → P u → P (Machine.hearCarrying x hold u) := fun x hold u hu h =>
    hP.part hP.hearCarrying (hearCarrying_touches x hold u) h fun h' => h' x hold u hu h
  have cleared : ∀ n u, I u → P u → P (Machine.clearViewOf n u) := fun n u hu h =>
    hP.part hP.clearViewOf (clearViewOf_touches n u) h fun h' => h' n u hu h
  have link : ∀ n m u, I u → P u → P (takeLink n m u) := fun n m u hu h => by
    unfold takeLink; split
    · exact carrying _ _ u hu h
    · exact cleared n u hu h
    · exact cleared n u hu h
  have beacon : ∀ n m u, I u → P u → P (takeBeaconLink n m u) := fun n m u hu h => by
    unfold takeBeaconLink; split
    · exact carrying _ _ u hu h
    · exact cleared n u hu h
  have radioI : I (Machine.radioGood s) := hI.radio s _ hi
  have radio : P (Machine.radioGood s) :=
    hP.part hP.radioGood (radioGood_touches s) hs fun h => h s hi hs
  have terminal : ∀ f : State → State, (∀ u, I u → P u → P (f u)) → P (fromTerminal f s) := fun f hf => by
    unfold fromTerminal; split
    · exact hf _ (hI.terminal s _ hi) (hP.part hP.terminalGood (terminalGood_touches s) hs fun h => h s hi hs)
    · exact hs
  have drained : ∀ u, I u → P u → u.slc.phase = .draining → P (Machine.linkDrained u) := fun u hu h hd =>
    hP.part hP.linkDrained (linkDrained_touches u) h fun h' => h' u hu h hd
  have lostRadio : ∀ u, I u → P u → P (Machine.loseRadio u) := fun u hu h =>
    hP.part hP.loseRadio (loseRadio_touches u) h fun h' => h' u hu h
  have lostTerminal : ∀ u, I u → P u → P (Machine.loseTerminal u) := fun u hu h =>
    hP.part hP.loseTerminal (loseTerminal_touches u) h fun h' => h' u hu h
  cases c with
  | powerOn p => exact hP.powerOn p s hi hs
  | restartCold n x b =>
    simp only [Machine.afterCommand, exec, execRestartCold]
    split
    · exact hP.restartCold b _ (hearI n) (hear n)
    · exact hear n
  | restartWarm n x b =>
    simp only [Machine.afterCommand, exec, execRestartWarm]
    split
    · exact hP.restartWarm b _ (hearI n) (hear n)
    · exact hear n
  | restartPin b => exact hP.restartWarm b s hi hs
  | waypoint n leg =>
    cases leg with
    | none => exact malformed _ (hearI n) (hear n)
    | some l => exact hP.part hP.takeMark (takeMark_touches _ _) (hear n) fun h => h l _ (hearI n) (hear n)
  | waypointOrigin n =>
    exact hP.part hP.takeOrigin (takeOrigin_touches _) (hear n) fun h => h _ (hearI n) (hear n)
  | claimHeard n key =>
    cases key with
    | none => exact malformed _ (hearI n) (hear n)
    | some k => exact hP.part hP.takeClaim (takeClaim_touches _ _ _) (hear n) fun h => h n k _ (hearI n) (hear n)
  | releaseHeard n msg =>
    cases msg with
    | none => exact malformed _ (hearI n) (hear n)
    | some m => exact hP.part hP.takeRelease (takeRelease_touches _ _) (hear n) fun h => h m _ (hearI n) (hear n)
  | linkCarryHeard n x hold => exact link n ⟨x, hold, .carry⟩ _ (hearI n) (hear n)
  | linkDrainHeard n x hold => exact link n ⟨x, hold, .drain⟩ _ (hearI n) (hear n)
  | linkDownHeard n x hold failed => exact link n ⟨x, hold, .down failed⟩ _ (hearI n) (hear n)
  | beaconHeard n msg =>
    simp only [Machine.afterCommand, exec, execBeaconHeard]
    cases soundBeacon msg with
    | none => exact malformed _ (hearI n) (hear n)
    | some m =>
      exact beacon n m _ (hI.endWindow n _ (heardI n (some m))) (window n _ (heardI n (some m)) (heard n (some m)))
  | tableOpen n msg =>
    cases msg with
    | none => exact malformed _ (heardI n none) (heard n none)
    | some m =>
      exact hP.part hP.takeTableOpen (takeTableOpen_touches _ _ _) (heard n none) fun h =>
        h n m _ (heardI n none) (heard n none)
  | tableData n row =>
    exact hP.part hP.takeTableData (takeTableData_touches _ _ _) (heard n none) fun h =>
      h n row _ (heardI n none) (heard n none)
  | drainRequest n msg =>
    cases msg with
    | none => exact malformed _ (hearI n) (hear n)
    | some q =>
      exact hP.part hP.takeDrainRequest (takeDrainRequest_touches _ _ _) (hear n) fun h =>
        h q.1 q.2 _ (hearI n) (hear n)
  | query n target =>
    cases target with
    | none => exact malformed _ (hearI n) (hear n)
    | some x => exact hP.part hP.takeQuery (takeQuery_touches _ _) (hear n) fun h => h x _ (hearI n) (hear n)
  | billHeard n => exact hear n
  | drainEndHeard n => exact hear n
  | reportHeard n => exact hear n
  | frameReceiveError check => exact hP.part hP.receiveError (.dbi s _) hs fun h => h check s hi hs
  | frameStart => exact hP.part hP.startFrame (startFrame_touches s) hs fun h => h s hi hs
  | arbitrationLost => exact hP.part hP.loseFrame (.dbi s _) hs fun h => h s hi hs
  | lineLost => exact hP.part hP.loseLine (.dbi s _) hs fun h => h s hi hs
  | frameSent d =>
    simp only [Machine.afterCommand, exec, execFrameSent, frameSent]
    split
    · exact hs
    · next q hq =>
      have hsentI := hI.sending q s hi
      have hsent := hP.part hP.sending
        ((Touches.dbi s { s.dbi with onLine := none }).comp (takeSending_touches q _)) hs fun h => h q s hi hs hq
      cases d with
      | some e => exact hP.part hP.receiveError (.dbi _ _) hsent fun h => h e _ hsentI hsent
      | none =>
        have hback := fun n => window n _ (hI.heardFrom n none _ hsentI)
          (hP.part hP.heardFrom (heardFrom_touches n none _) hsent fun h => h n none _ hsentI hsent)
        have hbackI := fun n => hI.endWindow n _ (hI.heardFrom n none _ hsentI)
        simp only [receiveOwn, ownContent]
        split
        · split
          · exact link _ _ _ (hbackI _) (hback _)
          · exact hback _
        · split
          · split
            · exact beacon _ _ _ (hbackI _) (hback _)
            · exact hback _
          · exact hback _
        all_goals exact hback _
  | beaconTime => exact hP.part hP.beaconTime (beaconTime_touches s) hs fun h => h s hi hs
  | listenPeriodEnd =>
    simp only [Machine.afterCommand, exec, execListenPeriodEnd]
    split
    · next hdue =>
      rw [Bool.and_eq_true, decide_eq_true_eq] at hdue
      exact hP.part hP.leaveStarting (leaveStarting_touches s) hs fun h => h s hi hs hdue.1 hdue.2
    · exact hs
  | dwellExpiry => exact hP.part hP.dwellExpired (dwellExpired_touches s) hs fun h => h s hi hs
  | slipFlagExpiry => exact hP.part hP.slipFlagExpired (.ite _ (.rtk s _) (.refl _ _)) hs fun h => h s hi hs
  | departureExpiry => exact hP.part hP.departureExpired (departureExpired_touches s) hs fun h => h s hi hs
  | peerQuiet p => exact hP.part hP.peerQuiet (peerQuiet_touches p s) hs fun h => h p s hi hs
  | peerLost p => exact hP.part hP.peerLost (peerLost_touches p s) hs fun h => h p s hi hs
  | returnHoldExpiry p => exact hP.part hP.returnHoldExpired (returnHoldExpired_touches p s) hs fun h => h p s hi hs
  | healthDeadlinePassed => exact hP.part hP.deadlinePassed (deadlinePassed_touches s) hs fun h => h s hi hs
  | orphanTimerExpiry => exact hP.part hP.orphanExpired (orphanExpired_touches s) hs fun h => h s hi hs
  | settleTimerExpiry =>
    simp only [Machine.afterCommand, exec, execSettleTimerExpiry]
    split
    · next hdue =>
      rw [Bool.and_eq_true, decide_eq_true_eq] at hdue
      exact hP.part hP.settled (settled_touches s) hs fun h => h s hi hs hdue.1
    · exact hs
  | drainTimerExpiry =>
    simp only [Machine.afterCommand, exec, execDrainTimerExpiry]
    split
    · next hdue =>
      rw [Bool.and_eq_true, decide_eq_true_eq] at hdue
      exact drained s hi hs hdue.1
    · exact hs
  | retryTimerExpiry =>
    simp only [Machine.afterCommand, exec, execRetryTimerExpiry]
    split
    · next hdue =>
      rw [Bool.and_eq_true, decide_eq_true_eq] at hdue
      exact hP.part hP.retryExpired (enterOff_touches s) hs fun h => h s hi hs hdue.1
    · exact hs
  | radioSilenceExpiry =>
    simp only [Machine.afterCommand, exec, execRadioSilenceExpiry]
    split
    · exact lostRadio s hi hs
    · exact hs
  | terminalSilenceExpiry =>
    simp only [Machine.afterCommand, exec, execTerminalSilenceExpiry]
    split
    · exact lostTerminal s hi hs
    · exact hs
  | channelBreak ch =>
    cases ch with
    | radio =>
      exact lostRadio _ (hI.radio s _ hi) (hP.part hP.huntRadio (.rch s _) hs fun h => h s hi hs)
    | terminal =>
      simp only [Machine.afterCommand, exec, execChannelBreak, breakChannel]
      split
      · exact lostTerminal _ (hI.terminal s _ hi) (hP.part hP.huntTerminal (.tch s _) hs fun h => h s hi hs)
      · exact hs
  | channelMessageError ch e => exact hP.part hP.messageError (messageError_touches ch e s) hs fun h => h ch e s hi hs
  | channelOverrun ch => exact hP.part hP.overrun (overrun_touches ch s) hs fun h => h ch s hi hs
  | attach k x v => exact hP.part hP.attach (attach_touches _ _ _ _) radio fun h => h k x v _ radioI radio
  | detach k => exact hP.part hP.takeDetach (takeDetach_touches _ _) radio fun h => h k _ radioI radio
  | usage k d v => exact hP.part hP.takeUsage (takeUsage_touches _ _ _ _) radio fun h => h k d v _ radioI radio
  | health => exact hP.part hP.takeHealth (takeHealth_touches _) radio fun h => h _ radioI radio
  | hold => exact hP.part hP.takeHold (takeHold_touches _) radio fun h => h _ radioI radio
  | statusUp => exact terminal _ fun _ _ h => h
  | statusDown =>
    exact terminal _ fun u hu h =>
      hP.part hP.failActivated (failActivated_touches u) h fun h' => h' u hu h
  | statusIdle =>
    refine terminal _ fun u hu h => ?_
    unfold takeIdle; split
    · next hd => exact drained u hu h hd
    · exact h
  | quality q =>
    exact terminal _ fun u hu h =>
      hP.part hP.takeQuality (takeQuality_touches q u) h fun h' => h' q u hu h
  | radioHoldLineAsserted =>
    exact hP.part hP.holdAsserted (Touches.pins s true s.terminalHold) hs fun h => h s hi hs
  | radioHoldLineReleased =>
    exact hP.part hP.holdReleased
      ((Touches.pins s false s.terminalHold).comp (Touches.rch { s with radioHold := false } _)) hs fun h => h s hi hs
  | terminalHoldLineChange x =>
    exact hP.part hP.terminalHoldLine (terminalHoldLine_touches x s) hs fun h => h x s hi hs
  | directiveSent ch => exact hP.part hP.directiveSent (directiveSent_touches ch s) hs fun h => h ch s hi hs
  | restartIgnored n msg =>
    cases msg with
    | none => exact malformed _ (hearI n) (hear n)
    | some q =>
      simp only [Machine.afterCommand, exec, execRestartIgnored]
      split
      · exact malformed _ (hearI n) (hear n)
      · exact hear n
  | malformedLinkFrame n => exact malformed _ (hearI n) (hear n)
  | markHoldAfterRestartEnd ch => exact hP.part hP.markHoldEnd (markHoldEnd_touches ch s) hs fun h => h ch s hi hs

/-- A law that rests neither on the queue nor on the timebase and that the parts keep is kept by every step. -/
theorem step (hI : KeptBefore I) (hqueueI : ∀ s rest, I s → I { s with pending := rest })
    (hlaw : apart [.pending, .timebase] law = true := by rfl) :
    ∀ s t : State, I s ∧ P s → step s = .next t → P t := by
  have hqueue : ∀ s rest, Touches [.pending, .timebase] s { s with pending := rest } := by
    intro s rest b hb; cases b <;> simp_all [Block.same]
  exact step_keeps (P := fun s => I s ∧ P s)
    (fun s rest h => ⟨hqueueI s rest h.1, hP.frame (same_of_apart (hqueue s rest) hlaw) h.2⟩)
    (fun s h => hP.frame (same_of_apart ((tick_touches s).mono (bs := [.pending, .timebase])) hlaw) h.2)
    (fun c s h => hP.afterCommand hI c s h.1 h.2)

end KeptByParts

/-- A law kept without another's help. -/
theorem KeptByParts.step_alone {law : List Block} {P : State → Prop} (hP : KeptByParts law (fun _ => True) P)
    (hlaw : apart [.pending, .timebase] law = true := by rfl) :
    ∀ s t : State, P s → Machine.step s = .next t → P t :=
  fun s t h => hP.step keptBefore_true (fun _ _ _ => trivial) hlaw s t ⟨trivial, h⟩

end Sys2Proof.Machine
end

section
/-! Shore link control's laws: the data gate (R119, R121) and the backhaul phase with its timers (R100, R107, R111, Table
6.1). First what the phase machine leaves of the carrier view and what each entry into a phase leaves it with; then the
hearing of frames, said once for every law that it keeps; then the two laws. -/

-- One theorem after another: all at once take more threads than the check's memory holds.
set_option Elab.async false

namespace Sys2Proof.Machine

/-! ## What a queued directive and an announcement leave alone -/

section
variable {δ : Type} (places : Nat) (gate : Bool) (d : δ) (c : Chan δ)

@[simp] theorem Chan.enqueue_up : (c.enqueue places gate d).up = c.up := by unfold Chan.enqueue; split <;> rfl
@[simp] theorem Chan.enqueue_silenceFrom : (c.enqueue places gate d).silenceFrom = c.silenceFrom := by
  unfold Chan.enqueue; split <;> rfl
@[simp] theorem Chan.enqueue_receiver : (c.enqueue places gate d).receiver = c.receiver := by
  unfold Chan.enqueue; split <;> rfl
@[simp] theorem Chan.enqueue_markHold : (c.enqueue places gate d).markHold = c.markHold := by
  unfold Chan.enqueue; split <;> rfl

end

section
variable (a : Announce) (s : State)

@[simp] theorem announce_slc : (announce a s).slc = s.slc := announce_touches a s .slc (by decide)
@[simp] theorem announce_tch : (announce a s).tch = s.tch := announce_touches a s .tch (by decide)
@[simp] theorem announce_cfg : (announce a s).cfg = s.cfg := announce_touches a s .cfg (by decide)
@[simp] theorem announce_rtk : (announce a s).rtk = s.rtk := announce_touches a s .rtk (by decide)
@[simp] theorem announce_tbl : (announce a s).tbl = s.tbl := announce_touches a s .tbl (by decide)
@[simp] theorem announce_prc : (announce a s).prc = s.prc := announce_touches a s .prc (by decide)
@[simp] theorem announce_timebase : (announce a s).timebase = s.timebase := announce_touches a s .timebase (by decide)

end

/-! ## The carrier view is apart from the phase (6.4, 6.6) -/

/-- The carrier view with the shore hold, the data gate and the rating link that follow it. -/
def State.viewPart (s : State) : Option Carrier × Bool × Bool × Nat :=
  (s.slc.view, s.slc.shoreHold, s.slc.gateOpen, s.slc.ratingLink)

section
variable (s : State)

@[simp] theorem announce_viewPart (a : Announce) : (announce a s).viewPart = s.viewPart := by simp [State.viewPart]
@[simp] theorem deactivate_viewPart : (deactivate s).viewPart = s.viewPart := rfl
@[simp] theorem enterFailed_viewPart : (enterFailed s).viewPart = s.viewPart := by
  simp only [enterFailed, announce_viewPart, deactivate_viewPart]; rfl
@[simp] theorem settled_viewPart : (settled s).viewPart = s.viewPart := by
  unfold settled
  dsimp only
  split
  · rfl
  · exact enterFailed_viewPart _
@[simp] theorem activate_viewPart : (activate s).viewPart = s.viewPart := by
  unfold activate
  dsimp only
  split
  · exact settled_viewPart _
  · rfl
@[simp] theorem enterOff_viewPart : (enterOff s).viewPart = s.viewPart := by
  unfold enterOff
  dsimp only
  split
  · exact activate_viewPart _
  · rfl
@[simp] theorem letGo_viewPart : (letGo s).viewPart = s.viewPart := enterOff_viewPart _
@[simp] theorem enterCarrying_viewPart : (enterCarrying s).viewPart = s.viewPart := announce_viewPart _ _
@[simp] theorem enterDraining_viewPart : (enterDraining s).viewPart = s.viewPart := announce_viewPart _ _
@[simp] theorem linkDrained_viewPart : (linkDrained s).viewPart = s.viewPart := by simp [linkDrained]
@[simp] theorem evaluateStandby_viewPart : (evaluateStandby s).viewPart = s.viewPart := by
  unfold evaluateStandby; split
  · split
    · exact letGo_viewPart _
    · split
      · exact enterCarrying_viewPart _
      · rfl
  · rfl
@[simp] theorem evaluate_viewPart : (evaluate s).viewPart = s.viewPart := by
  unfold evaluate; split
  · split
    · split
      · exact activate_viewPart _
      · rfl
    · split
      · rfl
      · exact letGo_viewPart _
    · split
      · rfl
      · exact letGo_viewPart _
    · exact evaluateStandby_viewPart _
    all_goals rfl
  · rfl
@[simp] theorem failActivated_viewPart : (failActivated s).viewPart = s.viewPart := by
  unfold failActivated; split
  · exact enterFailed_viewPart _
  · rfl
@[simp] theorem takeQuality_viewPart (score : Nat) : (takeQuality score s).viewPart = s.viewPart := by
  unfold takeQuality; split
  · split
    · dsimp only
      split
      · exact evaluateStandby_viewPart _
      · rfl
    · rfl
  · split
    · dsimp only
      split
      · exact enterFailed_viewPart _
      · rfl
    · rfl
  · rfl
@[simp] theorem takeTerminalHold_viewPart (asserted : Bool) : (takeTerminalHold asserted s).viewPart = s.viewPart := by
  unfold takeTerminalHold; split
  · rfl
  · dsimp only
    split
    · exact announce_viewPart _ _
    · rfl
@[simp] theorem terminalHoldLine_viewPart (asserted : Bool) : (terminalHoldLine asserted s).viewPart = s.viewPart := by
  unfold terminalHoldLine
  dsimp only
  split
  · exact takeTerminalHold_viewPart _ _
  · rfl
@[simp] theorem yieldTo_viewPart (c : Carrier) : (yieldTo c s).viewPart = s.viewPart := by
  unfold yieldTo; split
  · exact enterDraining_viewPart _
  · rfl
@[simp] theorem loseTerminal_viewPart : (loseTerminal s).viewPart = s.viewPart := by
  unfold loseTerminal; split
  · exact failActivated_viewPart _
  · rfl

end

/-! ## The hearing of a frame, for any law it keeps (R130, R132, R163) -/

/-- A law that rests neither on the roster nor on the load window, and that shore link control and the cover decision keep
where the roster reaches them. -/
structure KeptByHearing (P : State → Prop) : Prop where
  frame : ∀ {s t}, Touches [.prc, .tbl] s t → P s → P t
  covered : ∀ e b s, P s → P (coverDecision e b s)
  cleared : ∀ s, P s → P (clearView s)
  standby : ∀ s, P s → P (evaluateStandby s)

namespace KeptByHearing
variable {P : State → Prop} (hP : KeptByHearing P)
include hP

theorem clearViewOf (n : Nat) {s : State} (h : P s) : P (clearViewOf n s) := by
  unfold Machine.clearViewOf; split
  · exact hP.cleared s h
  · exact h

theorem changePeer (old new : Peer) (v b : Bool) {s : State} (h : P s) : P (changePeer old new v b s) := by
  unfold Machine.changePeer
  extract_lets s1 s2 s3
  have h1 : P s1 := hP.frame (setPeer_touches _ _).mono h
  have h2 : P s2 := by
    simp only [s2]; split
    · exact hP.clearViewOf _ h1
    · exact h1
  have h3 : P s3 := by
    simp only [s3]; split
    · exact hP.standby _ h2
    · exact h2
  split
  · exact hP.covered _ _ _ h3
  · exact h3

theorem heardFrom (n : Nat) (m : Option BeaconMsg) {s : State} (h : P s) : P (heardFrom n m s) := by
  unfold Machine.heardFrom; split
  · exact h
  · split
    · exact h
    · exact hP.changePeer _ _ _ _ h

theorem endWindow (n : Nat) {s : State} (h : P s) : P (endWindow n s) := hP.frame (endWindow_touches _ _).mono h

theorem hear (n : Nat) {s : State} (h : P s) : P (hear n s) := hP.endWindow n (hP.heardFrom n none h)

theorem peerQuiet (p : Nat) {s : State} (h : P s) : P (peerQuiet p s) := by
  unfold Machine.peerQuiet; split
  · exact h
  · split
    · exact hP.changePeer _ _ _ _ h
    · exact h

theorem peerLost (p : Nat) {s : State} (h : P s) : P (peerLost p s) := by
  unfold Machine.peerLost; split
  · exact h
  · split
    · exact hP.changePeer _ _ _ _ h
    · exact h

end KeptByHearing

/-! ## The law of the data gate (R119, R121) -/

theorem GateLaw.congr {s t : State} (h : GateLaw s) (hview : t.viewPart = s.viewPart) : GateLaw t := by
  simp only [State.viewPart, Prod.mk.injEq] at hview
  obtain ⟨hv, hs, hg, -⟩ := hview
  simpa only [GateLaw, State.gateCondition, hv, hs, hg] using h

theorem GateLaw.of_touches {bs : List Block} {s t : State} (h : GateLaw s) (ht : Touches bs s t)
    (hslc : Block.slc ∉ bs) : GateLaw t :=
  h.congr (by simp only [State.viewPart]; rw [ht .slc hslc])

/-- The evaluation of the gate opens and closes it as R121 says. -/
theorem evaluateGate_gateLaw {s : State} (h : s.slc.view = none → s.slc.shoreHold = false) :
    GateLaw (evaluateGate s) := by
  unfold evaluateGate; split
  · next heq => exact ⟨heq.symm, h⟩
  · exact ⟨rfl, h⟩

@[simp] theorem evaluateGate_view (s : State) : (evaluateGate s).slc.view = s.slc.view := by
  unfold evaluateGate; split <;> rfl

/-- Of shore link control the change of the rating link moves the rating link alone. -/
theorem updateRatingLink_slc (link : Nat) (s : State) :
    (updateRatingLink link s).slc = { s.slc with ratingLink := link } := by
  unfold updateRatingLink; split
  · next heq => rw [← heq]
  · exact ratingEvent_touches _ _ _ _ .slc (by decide)

theorem clearView_gateLaw (s : State) : GateLaw (clearView s) :=
  (evaluateGate_gateLaw (s := { s with slc := { s.slc with view := none, shoreHold := false } }) fun _ => rfl).congr
    (evaluate_viewPart _)

theorem offerCarrier_gateLaw (new : Carrier) (hold : Bool) {s : State} (h : GateLaw s) :
    GateLaw (offerCarrier new hold s) := by
  unfold offerCarrier
  dsimp only
  split
  · next hview =>
    split
    · exact evaluateGate_gateLaw fun hnone => absurd (hview.symm.trans hnone) (Option.some_ne_none _)
    · exact h
  · refine (evaluateGate_gateLaw fun hnone => ?_).congr (evaluate_viewPart _)
    rw [takeShoreHold_slc, updateRatingLink_slc] at hnone
    exact absurd hnone (Option.some_ne_none _)

theorem keptByHearing_gateLaw : KeptByHearing GateLaw where
  frame ht h := h.of_touches ht (by decide)
  covered e b s h := h.of_touches (coverDecision_touches e b s) (by decide)
  cleared s _ := clearView_gateLaw s
  standby _ h := h.congr (evaluateStandby_viewPart _)

/-- A restart leaves no carrier view, the shore hold clear and the gate closed, and the rating link as it was (R122). -/
theorem restartSlc_viewPart (s : State) : (restartSlc s).viewPart = (none, false, false, s.slc.ratingLink) := by
  unfold restartSlc
  dsimp only
  split
  · rw [apply_ite State.viewPart, activate_viewPart, ite_self, announce_viewPart]; rfl
  · rfl

theorem restartSlc_gateLaw (s : State) : GateLaw (restartSlc s) := by
  have hview := restartSlc_viewPart s
  simp only [State.viewPart, Prod.mk.injEq] at hview
  obtain ⟨hv, hs, hg, -⟩ := hview
  exact ⟨by simp [State.gateCondition, hv, hg], fun _ => hs⟩

theorem restartPrc_gateLaw {s : State} (h : GateLaw s) : GateLaw (restartPrc s) :=
  h.of_touches (restartPrc_touches s) (by decide)

/-- A leg evaluation leaves the carrier view: of shore link control only the phase is evaluated (R91). -/
theorem legEvaluation_viewPart (s : State) : (legEvaluation s).viewPart = s.viewPart := by
  unfold legEvaluation
  extract_lets s1 s2
  have h2 : s2.viewPart = s.viewPart := by
    have h : Touches [.rtk, .sub, .hov, .bsd, .prc, .rch] s s2 :=
      (Touches.ite _ (.refl _ _) (changeZone_touches _ _)).comp (.ite _ (.refl _ _) (silenceChanged_touches _ _))
    simp only [State.viewPart]
    rw [h .slc (by decide)]
  split
  · exact h2
  · exact (evaluate_viewPart _).trans h2

theorem moveLeg_viewPart (leg : Nat) (s : State) : (moveLeg leg s).viewPart = s.viewPart := by
  unfold moveLeg; split
  · rfl
  · exact legEvaluation_viewPart _

theorem takeMark_viewPart (leg : Nat) (s : State) : (takeMark leg s).viewPart = s.viewPart := by
  unfold takeMark; split
  · rfl
  · split
    · exact moveLeg_viewPart _ _
    · split
      · rfl
      · split
        · rfl
        · split
          · exact moveLeg_viewPart _ _
          · exact moveLeg_viewPart _ _

theorem takeOrigin_viewPart (s : State) : (takeOrigin s).viewPart = s.viewPart := by
  rw [takeOrigin, legEvaluation_viewPart]
  simp only [State.viewPart]
  rw [voyageStart_touches s .slc (by decide)]

theorem headerWritten_viewPart (s : State) : (headerWritten s).viewPart = s.viewPart := by
  unfold headerWritten
  dsimp only
  split
  · exact legEvaluation_viewPart _
  · split
    · exact legEvaluation_viewPart _
    · exact legEvaluation_viewPart _

theorem notice_viewPart (t : TableId) (i : Nat) (s : State) : (notice t i s).viewPart = s.viewPart := by
  cases t with
  | zone =>
    simp only [notice]
    split
    · rfl
    · rfl
  | tariff => rfl
  | partner => simp only [State.viewPart]; rw [show (notice .partner i s).slc = s.slc from
      recheckRow_touches _ _ .slc (by decide)]
  | route =>
    cases i with
    | zero => exact (evaluate_viewPart _).trans (headerWritten_viewPart _)
    | succ j => exact legEvaluation_viewPart _
  | link => exact evaluate_viewPart _
  | silence => simp only [State.viewPart]; rw [show (notice .silence i s).slc = s.slc from
      evaluateSilence_touches _ .slc (by decide)]

theorem takeTableData_viewPart (n : Nat) (bs : List Byte) (s : State) :
    (takeTableData n bs s).viewPart = s.viewPart := by
  unfold takeTableData; split
  · rfl
  · split
    · exact notice_viewPart _ _ _
    · rfl

theorem leaveStarting_viewPart (s : State) : (leaveStarting s).viewPart = s.viewPart := by
  unfold leaveStarting
  extract_lets _ s1 s2 s3 s4 s5
  have h5 : Touches [.sub, .hov, .bsd, .prc, .dbi, .rch] s s5 := by
    have h2 : Touches [.sub, .hov, .bsd, .prc, .rch] s s2 :=
      (Touches.prc s _).comp (bs := [.sub, .hov, .bsd, .prc, .rch])
        (.ite _ (enterDormant_touches _) ((queueRadio_touches _ _).comp (chooseState_touches _)))
    have h4 : Touches [.rch] s2 s4 := (queueRadio_touches _ _).trans (queueRadio_touches _ _)
    exact (h2.comp h4 (cs := [.sub, .hov, .bsd, .prc, .rch])).comp
      ((Touches.prc s4 _).comp (beaconAt_touches _) (cs := [.prc, .sub, .bsd, .dbi, .rch]))
  have hlast : (coverIfServing (evaluate s5)).viewPart = (evaluate s5).viewPart := by
    simp only [State.viewPart]
    rw [coverIfServing_touches _ .slc (by decide)]
  rw [hlast, evaluate_viewPart]
  simp only [State.viewPart]
  rw [h5 .slc (by decide)]

/-- The data gate's law rests on shore link control alone, whose phase machine leaves the carrier view. -/
theorem gateLaw_kept : KeptByParts [.slc] (fun _ => True) GateLaw where
  frame hsame h := h.congr (by simp only [State.viewPart]; rw [hsame .slc (by decide)])
  powerOn _ _ _ _ := ⟨rfl, fun _ => rfl⟩
  restartCold _ _ _ _ := restartPrc_gateLaw (restartSlc_gateLaw _)
  restartWarm _ _ _ _ := restartPrc_gateLaw (restartSlc_gateLaw _)
  heardFrom := .inr fun n m _ _ h => keptByHearing_gateLaw.heardFrom n m h
  takeMark := .inr fun l s _ h => h.congr (takeMark_viewPart l s)
  takeOrigin := .inr fun s _ h => h.congr (takeOrigin_viewPart s)
  hearCarrying := .inr fun c hold _ _ h => (offerCarrier_gateLaw c hold h).congr (yieldTo_viewPart _ _)
  clearViewOf := .inr fun n _ _ h => keptByHearing_gateLaw.clearViewOf n h
  takeTableData := .inr fun n bs s _ h => h.congr (takeTableData_viewPart n bs s)
  leaveStarting := .inr fun s _ h _ _ => h.congr (leaveStarting_viewPart s)
  peerQuiet := .inr fun p _ _ h => keptByHearing_gateLaw.peerQuiet p h
  peerLost := .inr fun p _ _ h => keptByHearing_gateLaw.peerLost p h
  settled := .inr fun s _ h _ => h.congr (settled_viewPart s)
  linkDrained := .inr fun s _ h _ => h.congr (linkDrained_viewPart s)
  retryExpired := .inr fun s _ h _ => h.congr (enterOff_viewPart s)
  loseTerminal := .inr fun s _ h => h.congr (loseTerminal_viewPart s)
  terminalHoldLine := .inr fun x s _ h => h.congr (terminalHoldLine_viewPart s x)
  failActivated := .inr fun s _ h => h.congr (failActivated_viewPart s)
  takeQuality := .inr fun q s _ h => h.congr (takeQuality_viewPart s q)

end Sys2Proof.Machine
end

section
/-! The law of the backhaul phase (R100, R107, R111, Table 6.1): what each entry into a phase leaves it with, then the parts
of the commands. -/

-- One theorem after another: all at once take more threads than the check's memory holds.
set_option Elab.async false

namespace Sys2Proof.Machine

/-- What the law of the phase rests on. -/
def State.phasePart (s : State) : Phase × Bool × Option Nat × Option Nat × Option Nat × Bool × Bool :=
  (s.slc.phase, s.slc.activated, s.slc.settleAt, s.slc.drainAt, s.slc.retryAt, s.tch.up, s.isTerminal)

theorem PhaseLaw.congr {s t : State} (h : PhaseLaw s) (hpart : t.phasePart = s.phasePart) : PhaseLaw t := by
  simp only [State.phasePart, Prod.mk.injEq] at hpart
  obtain ⟨hphase, hact, hsettle, hdrain, hretry, hup, hterm⟩ := hpart
  simpa only [PhaseLaw, hphase, hact, hsettle, hdrain, hretry, hup, hterm] using h

theorem PhaseLaw.of_touches {bs : List Block} {s t : State} (h : PhaseLaw s) (ht : Touches bs s t)
    (hbs : apart bs [.slc, .tch, .cfg] = true) : PhaseLaw t := by
  have hsame := same_of_apart ht hbs
  refine h.congr ?_
  simp only [State.phasePart, State.isTerminal]
  rw [hsame .slc (by decide), hsame .tch (by decide), hsame .cfg (by decide)]

/-- The phase of a station that is no terminal station is NONE, so a station in any other phase is one. -/
theorem PhaseLaw.isTerminal {s : State} (h : PhaseLaw s) (hphase : s.slc.phase ≠ .none) : s.isTerminal = true :=
  Bool.eq_true_of_not_eq_false fun hf => hphase (h.1.2 hf)

/-! ## Entries into the phases -/

theorem State.isTerminal_congr {s t : State} (h : t.cfg = s.cfg) : t.isTerminal = s.isTerminal := by
  rw [State.isTerminal, State.isTerminal, h]

@[simp] theorem announce_isTerminal (a : Announce) (s : State) : (announce a s).isTerminal = s.isTerminal :=
  State.isTerminal_congr (announce_cfg a s)

@[simp] theorem deactivate_isTerminal (s : State) : (deactivate s).isTerminal = s.isTerminal := rfl

@[simp] theorem announce_phasePart (a : Announce) (s : State) : (announce a s).phasePart = s.phasePart := by
  simp [State.phasePart]

theorem enterFailed_phaseLaw {s : State} (hterm : s.isTerminal = true) : PhaseLaw (enterFailed s) := by
  have hterm' : State.isTerminal { s with slc := { s.slc with
    phase := .failed, settleAt := none, drainAt := none, runCount := 0
    retryAt := some (s.timebase + Config.retryTime) } } = true := hterm
  simp [enterFailed, PhaseLaw, hterm', activatedPhase]

theorem settled_phaseLaw {s : State} (hterm : s.isTerminal = true) (hact : s.slc.activated = true)
    (hdrain : s.slc.drainAt = none) (hretry : s.slc.retryAt = none) : PhaseLaw (settled s) := by
  unfold settled
  dsimp only
  split
  · next hup =>
    simp [PhaseLaw, activatedPhase, hact, hdrain, hretry, show s.tch.up = true from hup]
    exact hterm
  · exact enterFailed_phaseLaw hterm

theorem activate_phaseLaw {s : State} (hterm : s.isTerminal = true) (hdrain : s.slc.drainAt = none)
    (hretry : s.slc.retryAt = none) : PhaseLaw (activate s) := by
  unfold activate
  dsimp only
  split
  · exact settled_phaseLaw hterm rfl hdrain hretry
  · simp [PhaseLaw, activatedPhase, hdrain, hretry]
    exact hterm

theorem enterOff_phaseLaw {s : State} (hterm : s.isTerminal = true) (hact : s.slc.activated = false) :
    PhaseLaw (enterOff s) := by
  unfold enterOff
  dsimp only
  split
  · exact activate_phaseLaw hterm rfl rfl
  · simp [PhaseLaw, activatedPhase, hact]
    exact hterm

theorem letGo_phaseLaw {s : State} (hterm : s.isTerminal = true) : PhaseLaw (letGo s) :=
  enterOff_phaseLaw (s := deactivate s) hterm rfl

theorem linkDrained_phaseLaw {s : State} (hterm : s.isTerminal = true) : PhaseLaw (linkDrained s) :=
  enterOff_phaseLaw (by simpa using hterm) (by simp)

/-- CARRYING is entered from STANDBY, whose terminal is activated and UP. -/
theorem enterCarrying_phaseLaw {s : State} (h : PhaseLaw s) (hphase : s.slc.phase = .standby) :
    PhaseLaw (enterCarrying s) := by
  have hterm := h.isTerminal (by simp [hphase])
  obtain ⟨-, hact, hup, hsettle, hdrain, hretry⟩ := h
  refine PhaseLaw.congr ?_ (announce_phasePart _ _)
  simp [hphase, activatedPhase] at hact hup hsettle hdrain hretry
  simp [PhaseLaw, activatedPhase, hact, hup, hsettle, hdrain, hretry]
  exact hterm

/-- DRAINING is entered from CARRYING, whose terminal is activated and UP. -/
theorem enterDraining_phaseLaw {s : State} (h : PhaseLaw s) (hphase : s.slc.phase = .carrying) :
    PhaseLaw (enterDraining s) := by
  have hterm := h.isTerminal (by simp [hphase])
  obtain ⟨-, hact, hup, hsettle, hdrain, hretry⟩ := h
  refine PhaseLaw.congr ?_ (announce_phasePart _ _)
  simp [hphase, activatedPhase] at hact hup hsettle hdrain hretry
  simp [PhaseLaw, activatedPhase, hact, hup, hsettle, hretry]
  exact hterm

/-! ## Evaluations -/

theorem evaluateStandby_phaseLaw {s : State} (h : PhaseLaw s) : PhaseLaw (evaluateStandby s) := by
  unfold evaluateStandby; split
  · next hphase =>
    split
    · exact letGo_phaseLaw (h.isTerminal (by simp [hphase]))
    · split
      · exact enterCarrying_phaseLaw h hphase
      · exact h
  · exact h

theorem evaluate_phaseLaw {s : State} (h : PhaseLaw s) : PhaseLaw (evaluate s) := by
  unfold evaluate; split
  · next hterm =>
    split
    · next hphase =>
      have ⟨_, _, _, _, hdrain, hretry⟩ := h
      simp [hphase] at hdrain hretry
      split
      · exact activate_phaseLaw hterm hdrain hretry
      · exact h
    · split
      · exact h
      · exact letGo_phaseLaw hterm
    · split
      · exact h
      · exact letGo_phaseLaw hterm
    · exact evaluateStandby_phaseLaw h
    all_goals exact h
  · exact h

theorem evaluateGate_phaseLaw {s : State} (h : PhaseLaw s) : PhaseLaw (evaluateGate s) := by
  unfold evaluateGate; split
  · exact h
  · exact h.congr rfl

theorem clearView_phaseLaw {s : State} (h : PhaseLaw s) : PhaseLaw (clearView s) :=
  evaluate_phaseLaw (evaluateGate_phaseLaw (h.congr rfl))

theorem updateRatingLink_phaseLaw (link : Nat) {s : State} (h : PhaseLaw s) : PhaseLaw (updateRatingLink link s) := by
  have ht := updateRatingLink_touches link s
  refine h.congr ?_
  simp only [State.phasePart, State.isTerminal, updateRatingLink_slc]
  rw [ht .tch (by decide), ht .cfg (by decide)]

theorem offerCarrier_phaseLaw (new : Carrier) (hold : Bool) {s : State} (h : PhaseLaw s) :
    PhaseLaw (offerCarrier new hold s) := by
  unfold offerCarrier
  dsimp only
  split
  · split
    · exact evaluateGate_phaseLaw (h.congr rfl)
    · exact h
  · refine evaluate_phaseLaw (evaluateGate_phaseLaw (PhaseLaw.congr ?_ rfl))
    exact updateRatingLink_phaseLaw _ (h.congr rfl)

theorem hearCarrying_phaseLaw (c : Carrier) (hold : Bool) {s : State} (h : PhaseLaw s) :
    PhaseLaw (hearCarrying c hold s) := by
  have hoffered := offerCarrier_phaseLaw c hold h
  unfold hearCarrying yieldTo
  split
  · next hyield =>
    simp only [Bool.and_eq_true, decide_eq_true_eq] at hyield
    exact enterDraining_phaseLaw hoffered hyield.1.1
  · exact hoffered

theorem keptByHearing_phaseLaw : KeptByHearing PhaseLaw where
  frame ht h := h.of_touches ht (by rfl)
  covered e b s h := h.of_touches (coverDecision_touches e b s) (by rfl)
  cleared _ h := clearView_phaseLaw h
  standby _ h := evaluateStandby_phaseLaw h

/-! ## The parts of the commands -/

theorem failActivated_phaseLaw {s : State} (h : PhaseLaw s) : PhaseLaw (failActivated s) := by
  unfold failActivated; split
  · next hact => exact enterFailed_phaseLaw (h.isTerminal fun hnone => by simp [hnone, activatedPhase] at hact)
  · exact h

/-- The terminal channel becomes LOST in a phase that then fails, or in one that does not ask it to be UP. -/
theorem loseTerminal_phaseLaw {s : State} (h : PhaseLaw s) : PhaseLaw (loseTerminal s) := by
  unfold loseTerminal; split
  · next hterm =>
    rw [Bool.and_eq_true] at hterm
    unfold failActivated; split
    · exact enterFailed_phaseLaw hterm.1
    · next hact =>
      obtain ⟨hnone, hactivated, -, htimers⟩ := h
      exact ⟨hnone, hactivated, fun hp => absurd hp hact, htimers⟩
  · exact h

/-- A good message makes the terminal channel UP, which every phase allows. -/
theorem PhaseLaw.of_up {s : State} (h : PhaseLaw s) (c : Chan TerminalDirective) (hup : s.tch.up = true → c.up = true) :
    PhaseLaw { s with tch := c } := by
  obtain ⟨hnone, hact, hlive, htimers⟩ := h
  exact ⟨hnone, hact, fun hp hs => hup (hlive hp hs), htimers⟩

theorem takeQuality_phaseLaw (score : Nat) {s : State} (h : PhaseLaw s) : PhaseLaw (takeQuality score s) := by
  unfold takeQuality; split
  · next hphase =>
    have hterm := h.isTerminal (by simp [hphase])
    split
    · dsimp only
      split
      · refine evaluateStandby_phaseLaw ?_
        obtain ⟨-, hact, hup, hsettle, hdrain, hretry⟩ := h
        simp [hphase, activatedPhase] at hact hup hsettle hdrain hretry
        simp [PhaseLaw, activatedPhase, hact, hup, hsettle, hdrain, hretry]
        exact hterm
      · exact h.congr rfl
    · exact h.congr rfl
  · next hphase =>
    split
    · dsimp only
      split
      · exact enterFailed_phaseLaw (s := { s with slc := _ }) (h.isTerminal (by simp [hphase]))
      · exact h.congr rfl
    · exact h.congr rfl
  · exact h

theorem terminalHoldLine_phaseLaw (asserted : Bool) {s : State} (h : PhaseLaw s) :
    PhaseLaw (terminalHoldLine asserted s) := by
  unfold terminalHoldLine takeTerminalHold
  dsimp only
  split
  · split
    · exact h.congr rfl
    · split
      · exact h.congr (announce_phasePart _ _)
      · exact h.congr rfl
  · exact h.congr rfl

theorem legEvaluation_phaseLaw {s : State} (h : PhaseLaw s) : PhaseLaw (legEvaluation s) := by
  unfold legEvaluation
  extract_lets s1 s2
  have h2 : PhaseLaw s2 := by
    have ht : Touches [.rtk, .sub, .hov, .bsd, .prc, .rch] s s2 :=
      (Touches.ite _ (.refl _ _) (changeZone_touches _ _)).comp (.ite _ (.refl _ _) (silenceChanged_touches _ _))
    exact h.of_touches ht (by rfl)
  split
  · exact h2
  · exact evaluate_phaseLaw (h2.congr rfl)

theorem moveLeg_phaseLaw (leg : Nat) {s : State} (h : PhaseLaw s) : PhaseLaw (moveLeg leg s) := by
  unfold moveLeg; split
  · exact h
  · exact legEvaluation_phaseLaw (h.congr rfl)

theorem takeMark_phaseLaw (leg : Nat) {s : State} (h : PhaseLaw s) : PhaseLaw (takeMark leg s) := by
  unfold takeMark; split
  · exact h
  · split
    · exact moveLeg_phaseLaw _ h
    · split
      · exact h.congr rfl
      · split
        · exact h
        · split
          · exact moveLeg_phaseLaw _ h
          · exact moveLeg_phaseLaw _ (h.congr rfl)

theorem takeOrigin_phaseLaw {s : State} (h : PhaseLaw s) : PhaseLaw (takeOrigin s) :=
  legEvaluation_phaseLaw (h.of_touches (voyageStart_touches s) (by rfl))

theorem headerWritten_phaseLaw {s : State} (h : PhaseLaw s) : PhaseLaw (headerWritten s) := by
  unfold headerWritten
  dsimp only
  split
  · exact legEvaluation_phaseLaw (h.congr rfl)
  · split
    · exact legEvaluation_phaseLaw (h.congr rfl)
    · exact legEvaluation_phaseLaw h

theorem notice_phaseLaw (t : TableId) (i : Nat) {s : State} (h : PhaseLaw s) : PhaseLaw (notice t i s) := by
  cases t with
  | zone =>
    simp only [notice]
    split
    · exact h.congr rfl
    · exact h
  | tariff => exact h
  | partner => exact h.of_touches (recheckRow_touches i s) (by rfl)
  | route =>
    cases i with
    | zero => exact evaluate_phaseLaw (headerWritten_phaseLaw h)
    | succ j => exact legEvaluation_phaseLaw h
  | link => exact evaluate_phaseLaw h
  | silence => exact h.of_touches (evaluateSilence_touches s) (by rfl)

theorem takeTableData_phaseLaw (n : Nat) (bs : List Byte) {s : State} (h : PhaseLaw s) :
    PhaseLaw (takeTableData n bs s) := by
  unfold takeTableData; split
  · exact h.congr rfl
  · split
    · next w _ _ =>
      exact (notice_phaseLaw w.table w.pointer (s := { s with tbl := writeRow w.table w.pointer bs s.tbl })
        (h.congr rfl)).congr rfl
    · exact h.congr rfl

theorem leaveStarting_phaseLaw {s : State} (h : PhaseLaw s) : PhaseLaw (leaveStarting s) := by
  unfold leaveStarting
  extract_lets _ s1 s2 s3 s4 s5
  have h5 : Touches [.sub, .hov, .bsd, .prc, .dbi, .rch] s s5 := by
    have h2 : Touches [.sub, .hov, .bsd, .prc, .rch] s s2 :=
      (Touches.prc s _).comp (bs := [.sub, .hov, .bsd, .prc, .rch])
        (.ite _ (enterDormant_touches _) ((queueRadio_touches _ _).comp (chooseState_touches _)))
    have h4 : Touches [.rch] s2 s4 := (queueRadio_touches _ _).trans (queueRadio_touches _ _)
    exact (h2.comp h4 (cs := [.sub, .hov, .bsd, .prc, .rch])).comp
      ((Touches.prc s4 _).comp (beaconAt_touches _) (cs := [.prc, .sub, .bsd, .dbi, .rch]))
  exact (evaluate_phaseLaw (h.of_touches h5 (by rfl))).of_touches (coverIfServing_touches _) (by rfl)

/-- A restart leaves the phase OFF or NONE with its timers stopped, or activates anew (R122, R123). -/
theorem restartSlc_phaseLaw (s : State) : PhaseLaw (restartSlc s) := by
  unfold restartSlc
  extract_lets found _ s1 s2
  have hoff : PhaseLaw s1 := by
    have hterm : s1.isTerminal = s.isTerminal := rfl
    simp only [PhaseLaw, hterm]
    cases h : s.isTerminal <;> simp [s1, h, activatedPhase]
  split
  · next hlink =>
    simp only [Bool.and_eq_true] at hlink
    have hterm : s2.isTerminal = true := (announce_isTerminal _ _).trans hlink.1.1
    split
    · exact activate_phaseLaw hterm (by simp [s2, s1]) (by simp [s2, s1])
    · exact PhaseLaw.congr (s := deactivate s1)
        (hoff.congr (by simp [State.phasePart, s1])) (announce_phasePart _ _)
  · exact hoff

/-- The law of the phase rests on shore link control, the terminal channel and the straps. -/
theorem phaseLaw_kept : KeptByParts [.slc, .tch, .cfg] (fun _ => True) PhaseLaw where
  frame hsame h := h.congr (by
    simp only [State.phasePart, State.isTerminal]
    rw [hsame .slc (by decide), hsame .tch (by decide), hsame .cfg (by decide)])
  powerOn p s _ _ := by
    have hterm : (powerOnNow p s).isTerminal = terminalStraps p.board.straps := rfl
    simp only [PhaseLaw, hterm]
    cases h : terminalStraps p.board.straps <;> simp [h, powerOnNow, Slc.reset, activatedPhase]
  restartCold b s _ _ := (restartSlc_phaseLaw (coldBlocks b s)).of_touches (restartPrc_touches _) (by rfl)
  restartWarm b s _ _ := (restartSlc_phaseLaw (warmBlocks b s)).of_touches (restartPrc_touches _) (by rfl)
  heardFrom := .inr fun n m _ _ h => keptByHearing_phaseLaw.heardFrom n m h
  malformed := .inr fun _ _ h => h.congr rfl
  takeMark := .inr fun l _ _ h => takeMark_phaseLaw l h
  takeOrigin := .inr fun _ _ h => takeOrigin_phaseLaw h
  hearCarrying := .inr fun c hold _ _ h => hearCarrying_phaseLaw c hold h
  clearViewOf := .inr fun n _ _ h => keptByHearing_phaseLaw.clearViewOf n h
  takeTableData := .inr fun n bs _ _ h => takeTableData_phaseLaw n bs h
  leaveStarting := .inr fun _ _ h _ _ => leaveStarting_phaseLaw h
  peerQuiet := .inr fun p _ _ h => keptByHearing_phaseLaw.peerQuiet p h
  peerLost := .inr fun p _ _ h => keptByHearing_phaseLaw.peerLost p h
  settled := .inr fun s _ h hphase => by
    have hterm := h.isTerminal (by simp [hphase])
    obtain ⟨-, hact, -, -, hdrain, hretry⟩ := h
    simp [hphase, activatedPhase] at hact hdrain hretry
    exact settled_phaseLaw hterm hact hdrain hretry
  linkDrained := .inr fun s _ h hphase => linkDrained_phaseLaw (h.isTerminal (by simp [hphase]))
  retryExpired := .inr fun s _ h hphase =>
    enterOff_phaseLaw (h.isTerminal (by simp [hphase])) (by rw [h.2.1, hphase]; rfl)
  loseTerminal := .inr fun _ _ h => loseTerminal_phaseLaw h
  terminalGood := .inr fun _ _ h => h.of_up _ fun _ => rfl
  huntTerminal := .inr fun _ _ h => h.of_up _ id
  messageError := .inr fun ch e s _ h => by
    unfold messageError; split
    · exact h
    · split
      · exact h.congr rfl
      · split
        · refine h.of_up _ fun hup => ?_
          simp only [Chan.messageError]
          split
          · rfl
          · exact hup
        · exact h
  overrun := .inr fun ch s _ h => by
    cases ch with
    | radio => exact h.congr rfl
    | terminal =>
      simp only [overrun]
      split
      · exact h.of_up _ id
      · exact h
  directiveSent := .inr fun ch s _ h => by
    cases ch with
    | radio => exact h.of_touches (bs := [.rch]) (by
        refine .ite _ ?_ (.refl _ _)
        intro x hx; cases x <;> simp_all [Block.same]) (by rfl)
    | terminal =>
      refine h.of_up _ fun hup => ?_
      unfold Chan.sent; split
      · exact hup
      · exact hup
  markHoldEnd := .inr fun ch s _ h => by
    cases ch with
    | radio => exact h.congr rfl
    | terminal => exact h.of_up _ id
  terminalHoldLine := .inr fun x _ _ h => terminalHoldLine_phaseLaw x h
  failActivated := .inr fun _ _ h => failActivated_phaseLaw h
  takeQuality := .inr fun q _ _ h => takeQuality_phaseLaw q h

/-- Settles O59: each law is kept by the parts of the commands. -/
theorem stepKeepsTheGateAndThePhase : Obligations.StepKeepsTheGateAndThePhase :=
  ⟨gateLaw_kept.step_alone, phaseLaw_kept.step_alone⟩

end Sys2Proof.Machine
end

section
/-! The route's laws (R82, R83, R93). First what each operation leaves of the route tracker, whole; then the two laws, which a
leg evaluation meets from any state with the leg on the route. -/

-- One theorem after another: all at once take more threads than the check's memory holds.
set_option Elab.async false

namespace Sys2Proof.Machine

/-! ## What the route tracker is left with -/

section
variable (s : State)

theorem changeZone_rtk (zone : Nat) : (changeZone zone s).rtk = { s.rtk with zone := zone } := by
  unfold changeZone
  extract_lets _ s1
  exact (recheckAll_touches _ .rtk (by decide)).trans (ratingEvent_touches .zone s.rtk.zone s1.slc.ratingLink s1 .rtk
    (by decide))

theorem silenceChanged_rtk (silent : Bool) : (silenceChanged silent s).rtk = { s.rtk with silent := silent } := by
  unfold silenceChanged
  extract_lets _ s1
  split
  · split
    · exact enterDormant_touches _ .rtk (by decide)
    · exact enterDormant_touches _ .rtk (by decide)
    · rfl
    · rfl
  · split
    · split
      · exact wake_touches _ .rtk (by decide)
      · rfl
    all_goals rfl

theorem handPlan_rtk (plan next : Nat) :
    (handPlan plan next s).rtk = { s.rtk with planLink := plan, nextPlanLink := next } :=
  evaluate_touches _ .rtk (by decide)

theorem evaluateSilence_rtk : (evaluateSilence s).rtk = { s.rtk with silent := s.derivedSilent } := by
  unfold evaluateSilence; split
  · next h => rw [h]
  · exact silenceChanged_rtk s _

/-- A leg evaluation leaves the route tracker with what the leg and the tables imply, and its other fields as they were
(R88). -/
theorem legEvaluation_rtk :
    (legEvaluation s).rtk = { s.rtk with
      zone := s.derivedZone, planLink := s.derivedPlan, nextPlanLink := s.derivedNextPlan
      silent := s.derivedSilent } := by
  unfold legEvaluation
  extract_lets s1 s2
  have h1 : s1.rtk = { s.rtk with zone := s.derivedZone } := by
    simp only [s1]; split
    · next h => rw [h]
    · exact changeZone_rtk s _
  have h2 : s2.rtk = { s.rtk with zone := s.derivedZone, silent := s.derivedSilent } := by
    simp only [s2]; split
    · next h => rw [h1, h]
    · rw [silenceChanged_rtk, h1]
  split
  · next h =>
    rw [Bool.and_eq_true, decide_eq_true_eq, decide_eq_true_eq] at h
    rw [h2, h.1, h.2]
  · rw [handPlan_rtk, h2]

theorem legEvaluation_tbl : (legEvaluation s).tbl = s.tbl := legEvaluation_touches s .tbl (by decide)

theorem voyageStart_rtk :
    (voyageStart s).rtk = { s.rtk with voyage := wrapInc Config.maxVoyage s.rtk.voyage, leg := 0 } := by
  unfold voyageStart
  extract_lets s1 _ s2 _ s3 s4
  have h1 : s1.rtk = s.rtk := ratingEvent_touches _ _ _ _ .rtk (by decide)
  have h4 : Touches [.sub, .rch] s3 s4 := .foldl _ (fun _ _ => unbar_touches _ _) _ _
  refine (h4 .rtk (by decide)).trans ?_
  change { s1.rtk with voyage := wrapInc Config.maxVoyage s1.rtk.voyage, leg := 0 } = _
  rw [h1]

theorem restartSlc_rtk : (restartSlc s).rtk = s.rtk := restartSlc_touches s .rtk (by decide)
theorem restartSlc_tbl : (restartSlc s).tbl = s.tbl := restartSlc_touches s .tbl (by decide)
theorem restartPrc_rtk : (restartPrc s).rtk = s.rtk := restartPrc_touches s .rtk (by decide)
theorem restartPrc_tbl : (restartPrc s).tbl = s.tbl := restartPrc_touches s .tbl (by decide)

theorem warmBlocks_rtk (b : Board) : (warmBlocks b s).rtk = { s.rtk with slipUntil := none, badMarks := 0 } := by
  have h : Touches [.sub, .hov, .bsd, .rch, .dbi] (restartRtkWarm (restartTblWarm (restartPorts b s)))
      (warmBlocks b s) :=
    (((restartSubWarm_touches _).comp (restartHovWarm_touches _) (cs := [.sub, .hov, .bsd, .rch])).comp
      (restartBsdWarm_touches _))
  exact h .rtk (by decide)

theorem warmBlocks_tbl (b : Board) :
    (warmBlocks b s).tbl = { s.tbl with window := none, refusedOpens := 0, strayData := 0 } := by
  have h : Touches [.sub, .hov, .bsd, .rch, .dbi, .rtk, .prc] (restartTblWarm (restartPorts b s)) (warmBlocks b s) :=
    ((((restartRtkWarm_touches _).comp (restartSubWarm_touches _)
      (cs := [.sub, .hov, .bsd, .rch, .rtk, .prc])).comp (restartHovWarm_touches _)
      (cs := [.sub, .hov, .bsd, .rch, .rtk, .prc])).comp (restartBsdWarm_touches _))
  exact h .tbl (by decide)

end

/-! ## The laws -/

/-- Both laws rest on the leg and the held values of the route tracker and on the rows of three tables. -/
theorem routeLaws_congr {s t : State} (h : LegLaw s ∧ RouteHeld s) (hleg : t.rtk.leg = s.rtk.leg)
    (hzone : t.rtk.zone = s.rtk.zone) (hplan : t.rtk.planLink = s.rtk.planLink)
    (hnext : t.rtk.nextPlanLink = s.rtk.nextPlanLink) (hsilent : t.rtk.silent = s.rtk.silent)
    (hroute : t.tbl.route = s.tbl.route) (hlegs : t.tbl.legs = s.tbl.legs)
    (hsilences : t.tbl.silences = s.tbl.silences) : LegLaw t ∧ RouteHeld t := by
  simpa only [LegLaw, RouteHeld, State.derivedZone, State.derivedPlan, State.derivedNextPlan, State.derivedSilent,
    State.nextLeg, State.legRow, hleg, hzone, hplan, hnext, hsilent, hroute, hlegs, hsilences] using h

theorem routeLaws_of_blocks {s t : State} (h : LegLaw s ∧ RouteHeld s) (hrtk : t.rtk = s.rtk) (htbl : t.tbl = s.tbl) :
    LegLaw t ∧ RouteHeld t :=
  routeLaws_congr h (by rw [hrtk]) (by rw [hrtk]) (by rw [hrtk]) (by rw [hrtk]) (by rw [hrtk]) (by rw [htbl])
    (by rw [htbl]) (by rw [htbl])

/-- A leg evaluation makes the held values those of the leg. -/
theorem legEvaluation_routeHeld (s : State) : RouteHeld (legEvaluation s) := by
  have hzone : (legEvaluation s).derivedZone = s.derivedZone := by
    simp only [State.derivedZone, State.legRow, legEvaluation_tbl, legEvaluation_rtk]
  have hplan : (legEvaluation s).derivedPlan = s.derivedPlan := by
    simp only [State.derivedPlan, State.legRow, legEvaluation_tbl, legEvaluation_rtk]
  have hnext : (legEvaluation s).derivedNextPlan = s.derivedNextPlan := by
    simp only [State.derivedNextPlan, State.legRow, State.nextLeg, legEvaluation_tbl, legEvaluation_rtk]
  have hsilent : (legEvaluation s).derivedSilent = s.derivedSilent := by
    simp only [State.derivedSilent, legEvaluation_tbl, legEvaluation_rtk]
  rw [RouteHeld, hzone, hplan, hnext, hsilent, legEvaluation_rtk]
  exact ⟨rfl, rfl, rfl, rfl⟩

theorem legEvaluation_routeLaws {s : State} (h : LegLaw s) : LegLaw (legEvaluation s) ∧ RouteHeld (legEvaluation s) :=
  ⟨by simpa only [LegLaw, legEvaluation_tbl, legEvaluation_rtk] using h, legEvaluation_routeHeld s⟩

theorem moveLeg_routeLaws {leg : Nat} {s : State} (h : LegLaw s ∧ RouteHeld s) (hleg : leg < s.tbl.route.length) :
    LegLaw (moveLeg leg s) ∧ RouteHeld (moveLeg leg s) := by
  unfold moveLeg; split
  · exact h
  · exact legEvaluation_routeLaws ⟨fun h0 => absurd hleg (by rw [show s.tbl.route.length = 0 from h0]; omega), fun _ => hleg⟩

theorem takeMark_routeLaws (leg : Nat) {s : State} (h : LegLaw s ∧ RouteHeld s) :
    LegLaw (takeMark leg s) ∧ RouteHeld (takeMark leg s) := by
  unfold takeMark; split
  · exact h
  · next hroute =>
    split
    · exact moveLeg_routeLaws h (Nat.mod_lt _ (Nat.pos_of_ne_zero hroute))
    · split
      · exact routeLaws_congr h rfl rfl rfl rfl rfl rfl rfl rfl
      · next hbad =>
        have hleg : leg < s.tbl.route.length := by
          simp only [Bool.or_eq_true, decide_eq_true_eq, not_or, not_le] at hbad
          exact hbad.1
        split
        · exact h
        · split
          · exact moveLeg_routeLaws h hleg
          · exact moveLeg_routeLaws (routeLaws_congr (t := countSlip s) h rfl rfl rfl rfl rfl rfl rfl rfl) hleg

theorem takeOrigin_routeLaws (s : State) : LegLaw (takeOrigin s) ∧ RouteHeld (takeOrigin s) := by
  refine legEvaluation_routeLaws ⟨fun _ => ?_, fun hroute => ?_⟩
  · rw [voyageStart_rtk]
  · rw [voyageStart_rtk]
    exact Nat.pos_of_ne_zero hroute

/-- The clamp at a new header puts any leg on the route (R92). -/
theorem headerWritten_routeLaws (s : State) : LegLaw (headerWritten s) ∧ RouteHeld (headerWritten s) := by
  unfold headerWritten
  dsimp only
  split
  · next h =>
    refine legEvaluation_routeLaws ⟨fun h0 => absurd h0 h.1, fun _ => ?_⟩
    exact Nat.sub_lt (Nat.pos_of_ne_zero h.1) Nat.one_pos
  · next hlong =>
    split
    · next h => exact legEvaluation_routeLaws ⟨fun _ => rfl, fun h0 => absurd h.1 h0⟩
    · next hzero => exact legEvaluation_routeLaws ⟨by tauto, fun h0 => Nat.lt_of_not_le fun hle => hlong ⟨h0, hle⟩⟩

/-- A row written and its notice acted on leave both laws: the rows of the route and of SILENCE bring about the evaluation
that they bear on. -/
theorem notice_routeLaws (t : TableId) (i : Nat) (bs : List Byte) {s : State} (h : LegLaw s ∧ RouteHeld s) :
    LegLaw (notice t i { s with tbl := writeRow t i bs s.tbl }) ∧
      RouteHeld (notice t i { s with tbl := writeRow t i bs s.tbl }) := by
  have hkept : ∀ tbl : Tbl, tbl.route = s.tbl.route → tbl.legs = s.tbl.legs → tbl.silences = s.tbl.silences →
      LegLaw { s with tbl := tbl } ∧ RouteHeld { s with tbl := tbl } := fun tbl hr hl hs =>
    routeLaws_congr h rfl rfl rfl rfl rfl hr hl hs
  cases t with
  | zone =>
    have hrow := hkept (writeRow .zone i bs s.tbl) rfl rfl rfl
    simp only [notice]
    split
    · exact routeLaws_of_blocks hrow rfl rfl
    · exact hrow
  | tariff => exact hkept (writeRow .tariff i bs s.tbl) rfl rfl rfl
  | partner =>
    have ht := recheckRow_touches i { s with tbl := writeRow .partner i bs s.tbl }
    exact routeLaws_of_blocks (hkept (writeRow .partner i bs s.tbl) rfl rfl rfl) (ht .rtk (by decide))
      (ht .tbl (by decide))
  | route =>
    cases i with
    | zero =>
      have ht := evaluate_touches (headerWritten { s with tbl := writeRow .route 0 bs s.tbl })
      exact routeLaws_of_blocks (headerWritten_routeLaws _) (ht .rtk (by decide)) (ht .tbl (by decide))
    | succ j => exact legEvaluation_routeLaws h.1
  | link =>
    have ht := evaluate_touches { s with tbl := writeRow .link i bs s.tbl }
    exact routeLaws_of_blocks (hkept (writeRow .link i bs s.tbl) rfl rfl rfl) (ht .rtk (by decide))
      (ht .tbl (by decide))
  | silence =>
    obtain ⟨hleg, hzone, hplan, hnext, -⟩ := h
    have htbl := evaluateSilence_touches { s with tbl := writeRow .silence i bs s.tbl } .tbl (by decide)
    refine ⟨?_, ?_⟩
    · simp only [notice, LegLaw, evaluateSilence_rtk]
      rw [htbl]
      exact hleg
    · simp only [notice, RouteHeld, State.derivedZone, State.derivedPlan, State.derivedNextPlan, State.derivedSilent,
        State.nextLeg, State.legRow, evaluateSilence_rtk]
      rw [htbl]
      exact ⟨hzone, hplan, hnext, rfl⟩

theorem takeTableData_routeLaws (n : Nat) (bs : List Byte) {s : State} (h : LegLaw s ∧ RouteHeld s) :
    LegLaw (takeTableData n bs s) ∧ RouteHeld (takeTableData n bs s) := by
  unfold takeTableData; split
  · exact routeLaws_congr h rfl rfl rfl rfl rfl rfl rfl rfl
  · next w _ =>
    split
    · exact routeLaws_congr (notice_routeLaws w.table w.pointer bs h) rfl rfl rfl rfl rfl rfl rfl rfl
    · exact routeLaws_congr h rfl rfl rfl rfl rfl rfl rfl rfl

/-- Right after power-on there is no route, and the values held are those of none. -/
theorem routeLaws_of_reset {t : State} (hrtk : t.rtk = .reset) (htbl : t.tbl = .reset) : LegLaw t ∧ RouteHeld t := by
  simp only [LegLaw, RouteHeld, State.derivedZone, State.derivedPlan, State.derivedNextPlan, State.derivedSilent,
    State.legRow, State.nextLeg, hrtk, htbl]
  decide

theorem routeLaws_kept : KeptByParts [.rtk, .tbl] (fun _ => True) (fun s => LegLaw s ∧ RouteHeld s) where
  frame hsame h := routeLaws_of_blocks h (hsame .rtk (by decide)) (hsame .tbl (by decide))
  powerOn _ _ _ _ := routeLaws_of_reset rfl rfl
  restartCold b s _ _ := by
    rw [restartColdNow_eq]
    exact routeLaws_of_reset (by rw [restartPrc_rtk, restartSlc_rtk]; rfl) (by rw [restartPrc_tbl, restartSlc_tbl]; rfl)
  restartWarm b s _ h := by
    have hwarm : LegLaw (warmBlocks b s) ∧ RouteHeld (warmBlocks b s) := by
      refine routeLaws_congr h ?_ ?_ ?_ ?_ ?_ ?_ ?_ ?_ <;> simp only [warmBlocks_rtk, warmBlocks_tbl]
    exact routeLaws_of_blocks hwarm ((restartPrc_rtk _).trans (restartSlc_rtk _))
      ((restartPrc_tbl _).trans (restartSlc_tbl _))
  endWindow := .inr fun n s _ h => by
    unfold endWindow; split
    · exact h
    · split
      · exact routeLaws_congr h rfl rfl rfl rfl rfl rfl rfl rfl
      · exact h
  takeMark := .inr fun l _ _ h => takeMark_routeLaws l h
  takeOrigin := .inr fun s _ _ => takeOrigin_routeLaws s
  takeTableOpen := .inr fun n m s _ h => by
    unfold takeTableOpen; split
    · exact routeLaws_congr h rfl rfl rfl rfl rfl rfl rfl rfl
    · split
      · exact routeLaws_congr h rfl rfl rfl rfl rfl rfl rfl rfl
      · exact routeLaws_congr h rfl rfl rfl rfl rfl rfl rfl rfl
  takeTableData := .inr fun n bs _ _ h => takeTableData_routeLaws n bs h
  slipFlagExpired := .inr fun s _ h => by
    unfold slipFlagExpired; split
    · exact routeLaws_congr h rfl rfl rfl rfl rfl rfl rfl rfl
    · exact h

/-- Settles O58: the parts of the commands that move the leg or write a row end in a leg evaluation. -/
theorem stepKeepsTheRoute : Obligations.StepKeepsTheRoute := routeLaws_kept.step_alone

end Sys2Proof.Machine
end

section
/-! The laws of slots, store and queues, prepared once for all of them. Most parts of the commands reach these blocks through
a few shared operations alone: the rating of a slot, the offering of an interval record, the end of a close, an announcement,
the queuing of a BEACON or of a directive, and updates of other blocks. A law that these keep is kept by all that is made of
them. -/

-- One theorem after another: all at once take more threads than the check's memory holds.
set_option Elab.async false

namespace Sys2Proof.Machine

/-- The blocks that no law of slots, store or queues rests on. -/
abbrev sideBlocks : List Block := [.rtk, .slc, .prc, .tbl]

/-- The terminal's silence time starts at this time (R179). -/
def restartSilence (now : Nat) (s : State) : State := { s with tch := { s.tch with silenceFrom := some now } }

/-- A law that the shared operations keep. -/
structure KeptByShared (P : State → Prop) : Prop where
  frame : ∀ {s t}, Touches sideBlocks s t → P s → P t
  malformed : ∀ {s}, P s → P (countMalformed s)
  queueRadio : ∀ d {s}, P s → P (queueRadio d s)
  queueTerminal : ∀ d {s}, P s → P (queueTerminal d s)
  restartSilence : ∀ now {s}, P s → P (restartSilence now s)
  terminalPin : ∀ level {s : State}, P s → P { s with terminalHold := level }
  announce : ∀ a {s}, P s → P (announce a s)
  offerBeacon : ∀ {s}, P s → P (offerBeacon s)
  rateSlot : ∀ final quiet zone link i {s}, P s → P (rateSlot final quiet zone link i s)
  offerInterval : ∀ cause i {s}, P s → P (offerInterval cause i s)
  finishClose : ∀ cause quiet i {s}, P s → P (finishClose cause quiet i s)

namespace KeptByShared
variable {P : State → Prop} (hP : KeptByShared P)
include hP

/-- An update of one block beside the law's. -/
theorem beside {b : Block} {s t : State} (ht : Touches [b] s t) (h : P s)
    (hb : within [b] sideBlocks = true := by rfl) : P t := hP.frame (ht.mono hb) h

/-! ### Shore link control -/

theorem deactivate {s : State} (h : P s) : P (deactivate s) := hP.beside (.slc _ _) (hP.queueTerminal .deactivate h)

theorem enterFailed {s : State} (h : P s) : P (enterFailed s) :=
  hP.announce _ (hP.deactivate (hP.beside (.slc s _) h))

theorem settled {s : State} (h : P s) : P (settled s) := by
  have h1 : P { s with slc := { s.slc with settleAt := none } } := hP.beside (.slc s _) h
  unfold Machine.settled
  dsimp only
  split
  · exact hP.beside (.slc s _) h
  · exact hP.enterFailed h1

theorem activate {s : State} (h : P s) : P (activate s) := by
  unfold Machine.activate
  extract_lets s1 _ _ s2
  have h1 : P s1 := hP.beside (.slc _ _) (hP.queueTerminal .activate h)
  have h2 : P s2 := hP.beside (.slc (Machine.restartSilence s1.timebase s1) _) (hP.restartSilence s1.timebase h1)
  split
  · exact hP.settled h2
  · exact h2

theorem enterOff {s : State} (h : P s) : P (enterOff s) := by
  unfold Machine.enterOff
  extract_lets _ s1
  have h1 : P s1 := hP.beside (.slc s _) h
  split
  · exact hP.activate h1
  · exact h1

theorem letGo {s : State} (h : P s) : P (letGo s) := hP.enterOff (hP.deactivate h)

theorem enterCarrying {s : State} (h : P s) : P (enterCarrying s) :=
  hP.announce _ (hP.beside (.slc _ _) (hP.queueTerminal _ h))

theorem enterDraining {s : State} (h : P s) : P (enterDraining s) :=
  hP.announce _ (hP.beside (.slc _ _) (hP.queueTerminal _ h))

theorem linkDrained {s : State} (h : P s) : P (linkDrained s) :=
  hP.enterOff (hP.announce _ (hP.deactivate h))

theorem evaluateStandby {s : State} (h : P s) : P (evaluateStandby s) := by
  unfold Machine.evaluateStandby; split
  · split
    · exact hP.letGo h
    · split
      · exact hP.enterCarrying h
      · exact h
  · exact h

theorem evaluate {s : State} (h : P s) : P (evaluate s) := by
  unfold Machine.evaluate; split
  · split
    · split
      · exact hP.activate h
      · exact h
    · split
      · exact h
      · exact hP.letGo h
    · split
      · exact h
      · exact hP.letGo h
    · exact hP.evaluateStandby h
    all_goals exact h
  · exact h

theorem failActivated {s : State} (h : P s) : P (failActivated s) := by
  unfold Machine.failActivated; split
  · exact hP.enterFailed h
  · exact h

theorem loseTerminal {s : State} (h : P s) (hdown : P { s with tch := { s.tch with up := false } }) :
    P (loseTerminal s) := by
  unfold Machine.loseTerminal; split
  · exact hP.failActivated hdown
  · exact h

theorem takeQuality (score : Nat) {s : State} (h : P s) : P (takeQuality score s) := by
  unfold Machine.takeQuality; split
  · split
    · dsimp only
      split
      · exact hP.evaluateStandby (hP.beside (.slc _ _) (hP.beside (.slc s _) h))
      · exact hP.beside (.slc s _) h
    · exact hP.beside (.slc s _) h
  · split
    · dsimp only
      split
      · exact hP.enterFailed (hP.beside (.slc s _) h)
      · exact hP.beside (.slc s _) h
    · exact hP.beside (.slc s _) h
  · exact h

theorem terminalHoldLine (asserted : Bool) {s : State} (h : P s) : P (terminalHoldLine asserted s) := by
  unfold Machine.terminalHoldLine
  extract_lets s1
  have h1 : P s1 := hP.terminalPin asserted h
  split
  · unfold takeTerminalHold
    dsimp only
    split
    · exact h1
    · split
      · exact hP.announce _ (hP.beside (.slc s1 _) h1)
      · exact hP.beside (.slc s1 _) h1
  · exact h1

theorem restartSlc {s : State} (h : P s) : P (restartSlc s) := by
  unfold Machine.restartSlc
  extract_lets found _ s1 s2
  have h1 : P s1 := hP.beside (.slc s _) h
  have h2 : P s2 := hP.announce _ (hP.deactivate h1)
  split
  · split
    · exact hP.activate h2
    · exact h2
  · exact h1

/-! ### Ratings, closes and sweeps -/

theorem recordRating (cause : Cause) (zone link i : Nat) {s : State} (h : P s) : P (recordRating cause zone link i s) :=
  hP.offerInterval _ _ (hP.rateSlot _ _ _ _ _ h)

theorem ratingEvent (cause : Cause) (zone link : Nat) {s : State} (h : P s) : P (ratingEvent cause zone link s) :=
  List.foldlRecOn _ _ h fun _ ht _ _ => hP.recordRating _ _ _ _ ht

theorem intervalChecks {s : State} (h : P s) : P (intervalChecks s) :=
  List.foldlRecOn _ _ h fun t ht i _ => by
    unfold intervalCheck; split
    · exact hP.recordRating _ _ _ _ ht
    · exact ht

theorem closeSlot (cause : Cause) (quiet : Bool) (i : Nat) {s : State} (h : P s) : P (closeSlot cause quiet i s) :=
  hP.finishClose _ _ _ (hP.rateSlot _ _ _ _ _ h)

theorem closeAll (cause : Cause) (quiet : Bool) (l : List Nat) {s : State} (h : P s) : P (closeAll cause quiet l s) :=
  List.foldlRecOn _ _ h fun _ ht _ _ => hP.closeSlot _ _ _ ht

theorem sweep (cause : Cause) (quiet : Bool) {s : State} (h : P s) : P (sweep cause quiet s) := hP.closeAll _ _ _ h

theorem recheckAll {s : State} (h : P s) : P (recheckAll s) := hP.closeAll _ _ _ h

theorem recheckRow (row : Nat) {s : State} (h : P s) : P (recheckRow row s) := hP.closeAll _ _ _ h

theorem usageChecks (i : Nat) {s : State} (h : P s) : P (usageChecks i s) := by
  unfold Machine.usageChecks; split
  · exact hP.recordRating _ _ _ _ h
  · split
    · exact hP.rateSlot _ _ _ _ _ h
    · exact h

theorem takeDetach (key : Nat) {s : State} (h : P s) : P (takeDetach key s) := by
  unfold Machine.takeDetach; split
  · exact h
  · exact hP.closeSlot _ _ _ h

/-! ### The carrier view and the roster -/

theorem updateRatingLink (link : Nat) {s : State} (h : P s) : P (updateRatingLink link s) := by
  unfold Machine.updateRatingLink; split
  · exact h
  · exact hP.ratingEvent _ _ _ (hP.beside (.slc s _) h)

theorem evaluateGate {s : State} (h : P s) : P (evaluateGate s) := by
  unfold Machine.evaluateGate; split
  · exact h
  · exact hP.queueRadio _ (hP.beside (.slc s _) h)

theorem offerCarrier (new : Carrier) (hold : Bool) {s : State} (h : P s) : P (offerCarrier new hold s) := by
  unfold Machine.offerCarrier
  dsimp only
  split
  · split
    · exact hP.evaluateGate (hP.beside (takeShoreHold_touches _ _) h)
    · exact h
  · exact hP.evaluate (hP.evaluateGate (hP.beside (takeShoreHold_touches _ _)
      (hP.updateRatingLink _ (hP.beside (.slc s _) h))))

theorem hearCarrying (c : Carrier) (hold : Bool) {s : State} (h : P s) : P (hearCarrying c hold s) := by
  have hoffered := hP.offerCarrier c hold h
  unfold Machine.hearCarrying yieldTo
  split
  · exact hP.enterDraining hoffered
  · exact hoffered

theorem addCover (p : Nat) {s : State} (h : P s) : P (addCover p s) := hP.queueRadio _ (hP.beside (.prc s _) h)

theorem removeCover (p : Nat) {s : State} (h : P s) : P (removeCover p s) := hP.queueRadio _ (hP.beside (.prc s _) h)

theorem emptyCover {s : State} (h : P s) : P (emptyCover s) :=
  hP.beside (.prc _ _) (List.foldlRecOn (motive := P) s.prc.cover
    (fun t (m : CoverMember) => Machine.queueRadio (.cover m.station false) t) h fun _ ht _ _ => hP.queueRadio _ ht)

theorem coverFailed {s : State} (h : P s) : P (coverFailed s) :=
  List.foldlRecOn _ _ h fun t ht p _ => by
    split
    · exact hP.addCover p ht
    · exact ht

theorem coverDecision (e : Peer) (b : Bool) {s : State} (h : P s) : P (coverDecision e b s) := by
  unfold Machine.coverDecision; split
  · exact h
  · split
    · split
      · exact hP.beside (.prc s _) h
      · split
        · exact h
        · split
          · exact hP.beside (.prc s _) h
          · exact hP.removeCover _ h
    · split
      · exact hP.addCover _ h
      · exact h

theorem keptByHearing : KeptByHearing P where
  frame ht h := hP.frame ht.mono h
  covered e b _ h := hP.coverDecision e b h
  cleared s h := hP.evaluate (hP.evaluateGate (hP.beside (.slc s _) h))
  standby _ h := hP.evaluateStandby h

/-! ### Serving states -/

theorem enterDormant {s : State} (h : P s) : P (enterDormant s) := by
  unfold Machine.enterDormant
  extract_lets s1 s2 _ s3 s4
  have h1 : P s1 := hP.sweep _ _ (hP.beside (setServing_touches _ s) h)
  have h4 : P s4 := hP.queueRadio _ (hP.beside (.prc s2 _) (hP.emptyCover h1))
  exact hP.beside (.prc s4 _) h4

theorem enterDark {s : State} (h : P s) : P (enterDark s) :=
  hP.beside (.prc _ _) (hP.emptyCover (hP.beside (setServing_touches _ s) h))

theorem sendIdentity {s : State} (h : P s) : P (sendIdentity s) := hP.queueRadio _ h

theorem coverIfServing {s : State} (h : P s) : P (coverIfServing s) := by
  unfold Machine.coverIfServing; split
  · exact hP.coverFailed h
  · exact h

theorem wake {s : State} (h : P s) : P (wake s) := by
  unfold Machine.wake
  extract_lets s1 _ s2
  have h2 : P s2 := hP.beside (.prc s1 _) (hP.sendIdentity (hP.queueRadio _ h))
  exact hP.coverIfServing (hP.beside (chooseState_touches s2) h2)

theorem dwellExpired {s : State} (h : P s) : P (dwellExpired s) := by
  unfold Machine.dwellExpired; split
  · split
    · exact hP.wake h
    · exact hP.beside (.prc s _) h
  · exact h

theorem returnHoldExpired (p : Nat) {s : State} (h : P s) : P (returnHoldExpired p s) := by
  unfold Machine.returnHoldExpired; split
  · exact hP.removeCover _ h
  · exact h

theorem deadlinePassed {s : State} (h : P s) : P (deadlinePassed s) := by
  unfold Machine.deadlinePassed; split
  · dsimp only
    split
    · exact hP.enterDark (hP.beside (.prc s _) h)
    · exact hP.beside (.prc s _) h
  · exact h

theorem loseRadio {s : State} (h : P s) (hdown : P { s with rch := { s.rch with up := false } }) :
    P (loseRadio s) := by
  unfold Machine.loseRadio; split
  · unfold radioLost; split
    · exact hP.enterDark hdown
    · exact hdown
  · exact h

theorem silenceChanged (silent : Bool) {s : State} (h : P s) : P (silenceChanged silent s) := by
  unfold Machine.silenceChanged
  extract_lets _ s1
  have h1 : P s1 := hP.beside (.rtk s _) h
  split
  · split
    · exact hP.enterDormant h1
    · exact hP.enterDormant h1
    · exact hP.beside (.prc s1 _) h1
    · exact h1
  · split
    · split
      · exact hP.wake h1
      · exact hP.beside (.prc s1 _) h1
    all_goals exact h1

theorem evaluateSilence {s : State} (h : P s) : P (evaluateSilence s) := by
  unfold Machine.evaluateSilence; split
  · exact h
  · exact hP.silenceChanged _ h

theorem beaconAt {s : State} (h : P s) : P (beaconAt s) := hP.intervalChecks (hP.offerBeacon h)

theorem beaconTime {s : State} (h : P s) : P (beaconTime s) := by
  unfold Machine.beaconTime; split
  · exact h
  · split
    · exact hP.beaconAt (hP.beside (.prc s _) h)
    · exact h

theorem leaveStarting {s : State} (h : P s) : P (leaveStarting s) := by
  unfold Machine.leaveStarting
  extract_lets _ s1 s2 s3 s4 s5
  have h1 : P s1 := hP.beside (.prc s _) h
  have h2 : P s2 := by
    simp only [s2]; split
    · exact hP.enterDormant h1
    · exact hP.beside (chooseState_touches _) (hP.queueRadio _ h1)
  have h4 : P s4 := hP.queueRadio _ (hP.sendIdentity h2)
  have h5 : P s5 := hP.beaconAt (hP.beside (.prc s4 _) h4)
  exact hP.coverIfServing (hP.evaluate h5)

theorem takeHealth {s : State} (h : P s) : P (takeHealth s) := by
  unfold Machine.takeHealth
  extract_lets _ s1
  have h1 : P s1 := hP.beside (.prc s _) h
  split
  · unfold returnFromDark
    dsimp only
    have h2 : P { s1 with prc := { s1.prc with orphanAt := none } } := hP.beside (.prc s1 _) h1
    split
    · exact hP.enterDormant h2
    · exact hP.coverFailed (hP.beside (setServing_touches _ _) h2)
  · exact h1

theorem orphanExpired {s : State} (h : P s) : P (orphanExpired s) := by
  unfold Machine.orphanExpired; split
  · exact hP.sweep _ _ (hP.beside (.prc s _) h)
  · exact h

/-! ### The route and the tables -/

theorem changeZone (zone : Nat) {s : State} (h : P s) : P (changeZone zone s) :=
  hP.recheckAll (hP.sendIdentity (hP.ratingEvent _ _ _ (hP.beside (.rtk s _) h)))

theorem legEvaluation {s : State} (h : P s) : P (legEvaluation s) := by
  unfold Machine.legEvaluation
  extract_lets s1 s2
  have h1 : P s1 := by
    simp only [s1]; split
    · exact h
    · exact hP.changeZone _ h
  have h2 : P s2 := by
    simp only [s2]; split
    · exact h1
    · exact hP.silenceChanged _ h1
  split
  · exact h2
  · exact hP.evaluate (hP.beside (.rtk s2 _) h2)

theorem moveLeg (leg : Nat) {s : State} (h : P s) : P (moveLeg leg s) := by
  unfold Machine.moveLeg; split
  · exact h
  · exact hP.legEvaluation (hP.beside (.rtk s _) h)

theorem takeMark (leg : Nat) {s : State} (h : P s) : P (takeMark leg s) := by
  unfold Machine.takeMark; split
  · exact h
  · split
    · exact hP.moveLeg _ h
    · split
      · exact hP.beside (.rtk s _) h
      · split
        · exact h
        · split
          · exact hP.moveLeg _ h
          · exact hP.moveLeg _ (hP.beside (countSlip_touches s) h)

theorem headerWritten {s : State} (h : P s) : P (headerWritten s) := by
  unfold Machine.headerWritten
  dsimp only
  split
  · exact hP.legEvaluation (hP.beside (countSlip_touches _) (hP.beside (.rtk s _) h))
  · split
    · exact hP.legEvaluation (hP.beside (countSlip_touches _) (hP.beside (.rtk s _) h))
    · exact hP.legEvaluation h

theorem notice (t : TableId) (i : Nat) {s : State} (h : P s) : P (notice t i s) := by
  cases t with
  | zone =>
    simp only [Machine.notice]
    split
    · exact hP.sendIdentity h
    · exact h
  | tariff => exact h
  | partner => exact hP.recheckRow _ h
  | route =>
    cases i with
    | zero => exact hP.evaluate (hP.headerWritten h)
    | succ j => exact hP.legEvaluation h
  | link => exact hP.evaluate h
  | silence => exact hP.evaluateSilence h

theorem takeTableData (n : Nat) (bs : List Byte) {s : State} (h : P s) : P (takeTableData n bs s) := by
  unfold Machine.takeTableData; split
  · exact hP.beside (.tbl s _) h
  · split
    · exact hP.beside (setWindow_touches _ _) (hP.notice _ _ (hP.beside (.tbl s _) h))
    · exact hP.beside (.tbl s _) h

end KeptByShared

/-- What a law that the shared operations keep has still to say: of the restarts, of the parts that reach the claims, the
departures, the drain and the queues by ways of their own, of those that rewrite entries, and of the channels. -/
structure KeptByRest (law : List Block) (I P : State → Prop) : Prop where
  frame : ∀ {s t}, (∀ b ∈ law, b.same s t) → P s → P t
  powerOn : ∀ p s, I s → P s → P (powerOnNow p s)
  restartCold : ∀ b s, I s → P s → P (restartColdNow b s)
  restartWarm : ∀ b s, I s → P s → P (restartWarmNow b s)
  voyageStart : ∀ s, I s → P s → P (voyageStart s)
  takeClaim : apart [.sub, .hov, .bsd, .dbi, .rch] law = true ∨ ∀ n k s, I s → P s → P (takeClaim n k s) := by
    exact Or.inl rfl
  takeRelease : apart [.sub, .hov, .rch] law = true ∨ ∀ m s, I s → P s → P (takeRelease m s) := by exact Or.inl rfl
  takeDrainRequest : apart [.bsd, .dbi] law = true ∨ ∀ x n s, I s → P s → P (takeDrainRequest x n s) := by
    exact Or.inl rfl
  takeQuery : apart [.dbi] law = true ∨ ∀ x s, I s → P s → P (takeQuery x s) := by exact Or.inl rfl
  receiveError : apart [.dbi] law = true ∨ ∀ c s, I s → P s → P { s with dbi := countReceiveError c s.dbi } := by
    exact Or.inl rfl
  startFrame : apart [.dbi] law = true ∨ ∀ s, I s → P s → P (startFrame s) := by exact Or.inl rfl
  loseFrame : apart [.dbi] law = true ∨ ∀ s, I s → P s → P { s with dbi := loseFrame s.dbi } := by exact Or.inl rfl
  loseLine : apart [.dbi] law = true ∨ ∀ s, I s → P s → P { s with dbi := loseLine s.dbi } := by exact Or.inl rfl
  sending : apart [.dbi, .hov, .sub, .bsd] law = true ∨
    ∀ q s, I s → P s → s.dbi.onLine = some q → P (takeSending q { s with dbi := { s.dbi with onLine := none } }) := by
    exact Or.inl rfl
  departureExpired : apart [.hov] law = true ∨ ∀ s, I s → P s → P (departureExpired s) := by exact Or.inl rfl
  attach : apart [.sub, .hov, .bsd, .dbi, .rch] law = true ∨ ∀ k h v s, I s → P s → P (attach k h v s) := by
    exact Or.inl rfl
  usage : apart [.sub] law = true ∨
    ∀ i data voice s, I s → P s → P (s.updateEntry i (Entry.takeUsage data voice)) := by exact Or.inl rfl
  unknownUsage : apart [.sub] law = true ∨
    ∀ n s, I s → P s → P { s with sub := { s.sub with unknownUsage := n } } := by exact Or.inl rfl
  radioGood : apart [.rch] law = true ∨ ∀ s, I s → P s → P (radioGood s) := by exact Or.inl rfl
  radioDown : apart [.rch] law = true ∨ ∀ s, I s → P s → P { s with rch := { s.rch with up := false } } := by
    exact Or.inl rfl
  huntRadio : apart [.rch] law = true ∨ ∀ s, I s → P s → P { s with rch := s.rch.hunt } := by exact Or.inl rfl
  terminalGood : apart [.tch] law = true ∨ ∀ s, I s → P s → P (terminalGood s) := by exact Or.inl rfl
  terminalDown : apart [.tch] law = true ∨ ∀ s, I s → P s → P { s with tch := { s.tch with up := false } } := by
    exact Or.inl rfl
  huntTerminal : apart [.tch] law = true ∨ ∀ s, I s → P s → P { s with tch := s.tch.hunt } := by exact Or.inl rfl
  messageError : apart [.rch, .tch] law = true ∨ ∀ ch e s, I s → P s → P (messageError ch e s) := by exact Or.inl rfl
  overrun : apart [.rch, .tch] law = true ∨ ∀ ch s, I s → P s → P (overrun ch s) := by exact Or.inl rfl
  directiveSent : apart [.rch, .tch] law = true ∨ ∀ ch s, I s → P s → P (directiveSent ch s) := by exact Or.inl rfl
  markHoldEnd : apart [.rch, .tch] law = true ∨ ∀ ch s, I s → P s → P (markHoldEnd ch s) := by exact Or.inl rfl
  holdAsserted : apart [.pins] law = true ∨ ∀ s, I s → P s → P { s with radioHold := true } := by exact Or.inl rfl
  holdReleased : apart [.pins, .rch] law = true ∨ ∀ s, I s → P s → P (startRadio { s with radioHold := false }) := by
    exact Or.inl rfl

/-- A law that the shared operations keep, and the rest, is kept by all parts of the commands. -/
theorem KeptByShared.parts {law : List Block} {I P : State → Prop} (hP : KeptByShared P) (hr : KeptByRest law I P) :
    KeptByParts law I P where
  frame := hr.frame
  powerOn := hr.powerOn
  restartCold := hr.restartCold
  restartWarm := hr.restartWarm
  heardFrom := .inr fun n m _ _ h => hP.keptByHearing.heardFrom n m h
  endWindow := .inr fun n s _ h => hP.beside (endWindow_touches n s) h
  malformed := .inr fun _ _ h => hP.malformed h
  takeMark := .inr fun l _ _ h => hP.takeMark l h
  takeOrigin := .inr fun s hi h => hP.legEvaluation (hr.voyageStart s hi h)
  takeClaim := hr.takeClaim
  takeRelease := hr.takeRelease
  hearCarrying := .inr fun c hold _ _ h => hP.hearCarrying c hold h
  clearViewOf := .inr fun n _ _ h => hP.keptByHearing.clearViewOf n h
  takeTableOpen := .inr fun n m s _ h => hP.beside (takeTableOpen_touches n m s) h
  takeTableData := .inr fun n bs _ _ h => hP.takeTableData n bs h
  takeDrainRequest := hr.takeDrainRequest
  takeQuery := hr.takeQuery
  receiveError := hr.receiveError
  startFrame := hr.startFrame
  loseFrame := hr.loseFrame
  loseLine := hr.loseLine
  sending := hr.sending
  beaconTime := .inr fun _ _ h => hP.beaconTime h
  leaveStarting := .inr fun _ _ h _ _ => hP.leaveStarting h
  dwellExpired := .inr fun _ _ h => hP.dwellExpired h
  slipFlagExpired := .inr fun s _ h => hP.frame (Touches.ite _ (.rtk s _) (.refl _ _)).mono h
  departureExpired := hr.departureExpired
  peerQuiet := .inr fun p _ _ h => hP.keptByHearing.peerQuiet p h
  peerLost := .inr fun p _ _ h => hP.keptByHearing.peerLost p h
  returnHoldExpired := .inr fun p _ _ h => hP.returnHoldExpired p h
  deadlinePassed := .inr fun _ _ h => hP.deadlinePassed h
  orphanExpired := .inr fun _ _ h => hP.orphanExpired h
  settled := .inr fun _ _ h _ => hP.settled h
  linkDrained := .inr fun _ _ h _ => hP.linkDrained h
  retryExpired := .inr fun _ _ h _ => hP.enterOff h
  loseRadio := .inr fun s hi h => hP.loseRadio h
    (hr.radioDown.elim (fun ha => hr.frame (same_of_apart (.rch s _) ha) h) fun hf => hf s hi h)
  loseTerminal := .inr fun s hi h => hP.loseTerminal h
    (hr.terminalDown.elim (fun ha => hr.frame (same_of_apart (.tch s _) ha) h) fun hf => hf s hi h)
  radioGood := hr.radioGood
  terminalGood := hr.terminalGood
  huntRadio := hr.huntRadio
  huntTerminal := hr.huntTerminal
  messageError := hr.messageError
  overrun := hr.overrun
  directiveSent := hr.directiveSent
  markHoldEnd := hr.markHoldEnd
  holdAsserted := hr.holdAsserted
  holdReleased := hr.holdReleased
  terminalHoldLine := .inr fun x _ _ h => hP.terminalHoldLine x h
  attach := hr.attach
  takeDetach := .inr fun k _ _ h => hP.takeDetach k h
  takeUsage := .inr fun k d v s hi h => by
    unfold takeUsage; split
    · exact hr.unknownUsage.elim (fun ha => hr.frame (same_of_apart (.sub s _) ha) h) fun hf => hf _ s hi h
    · refine hP.usageChecks _ ?_
      exact hr.usage.elim (fun ha => hr.frame (same_of_apart (updateEntry_touches _ _ s) ha) h) fun hf => hf _ _ _ s hi h
  takeHealth := .inr fun _ _ h => hP.takeHealth h
  takeHold := .inr fun s _ h => hP.beside (takeHold_touches s) h
  failActivated := .inr fun _ _ h => hP.failActivated h
  takeQuality := .inr fun q _ _ h => hP.takeQuality q h

end Sys2Proof.Machine
end

section
/-! What an ATTACH, a CLAIM, a RELEASE heard and a queue's head bring about, told by the operations they are made of, and what
the operations on transmit queues leave of the deck bus block. -/

-- One theorem after another: all at once take more threads than the check's memory holds.
set_option Elab.async false

namespace Sys2Proof.Machine

/-! ## Transmit queues: what is left alone -/

/-- A LINK offered moves the class-2 place and the one beside it alone. -/
theorem offerLink_dbi (m : LinkMsg) (s : State) :
    ∃ l b, (offerLink m s).dbi = { s.dbi with link := l, linkBeside := b } := by
  unfold offerLink
  split
  · exact ⟨_, _, rfl⟩
  · split
    · exact ⟨_, _, rfl⟩
    · split
      · exact ⟨_, _, rfl⟩
      · exact ⟨_, _, rfl⟩

theorem announce_dbi (a : Announce) (s : State) :
    ∃ l b, (announce a s).dbi = { s.dbi with link := l, linkBeside := b } := offerLink_dbi _ s

theorem offerBeacon_dbi (s : State) : ∃ b, (offerBeacon s).dbi = { s.dbi with beacon := b } := by
  unfold offerBeacon
  split
  · exact ⟨_, rfl⟩
  · exact ⟨_, rfl⟩

/-- Taking a CLAIM out of a queue shortens it by one. -/
theorem splitClaim_length {q q' : List (Waiting Class1)} {k : Nat} (h : splitClaim q = some (k, q')) :
    q.length = q'.length + 1 := by
  induction q generalizing q' with
  | nil => simp [splitClaim] at h
  | cons w rest ih =>
    unfold splitClaim at h
    split at h
    · simp only [Option.some.injEq, Prod.mk.injEq] at h
      rw [← h.2, List.length_cons]
    · simp only [Option.map_eq_some_iff, Prod.mk.injEq] at h
      obtain ⟨⟨k', r⟩, hr, rfl, rfl⟩ := h
      simp [ih hr]

theorem splitFreeClaim_length {b : Bool} {q q' : List (Waiting Class1)} {k : Nat}
    (h : splitFreeClaim b q = some (k, q')) : q.length = q'.length + 1 := by
  unfold splitFreeClaim at h
  split at h
  · split at h
    · simp at h
    · simp only [Option.map_eq_some_iff, Prod.mk.injEq] at h
      obtain ⟨⟨k', r⟩, hr, rfl, rfl⟩ := h
      simp [splitClaim_length hr]
  · exact splitClaim_length h

@[simp] theorem deferHead_length {α : Type} (q : List (Waiting α)) : (deferHead q).length = q.length := by
  cases q <;> rfl

/-! ## What a class-1 offer can do (R49, R53, R169) -/

/-- A RELEASE offered is queued with room, or takes the place of a CLAIM whose key is then forgotten, or is dropped; a
listen-only station does nothing. -/
theorem offerRelease_cases (m : ReleaseMsg) (s : State) :
    (s.listenOnly = true ∧ offerRelease m s = s) ∨
    (s.dbi.class1.length < 16 ∧
      offerRelease m s = { s with dbi := { s.dbi with class1 := s.dbi.class1 ++ [s.enter (.release m)] } }) ∨
    (splitFreeClaim (s.dbi.onLine == some .class1) s.dbi.class1 = none ∧ offerRelease m s = countClass1Drop s) ∨
    ∃ key q, splitFreeClaim (s.dbi.onLine == some .class1) s.dbi.class1 = some (key, q) ∧
      offerRelease m s =
        forgetClaim key (countClass1Drop { s with dbi := { s.dbi with class1 := q ++ [s.enter (.release m)] } }) := by
  unfold offerRelease
  split
  · next h => exact .inl ⟨h, rfl⟩
  · split
    · next h => exact .inr (.inl ⟨h, rfl⟩)
    · split
      · next h => exact .inr (.inr (.inl ⟨h, rfl⟩))
      · next key q h => exact .inr (.inr (.inr ⟨key, q, h, rfl⟩))

/-- A CLAIM offered is queued with room, else dropped and its key forgotten. -/
theorem offerClaim_cases (key : Nat) {s : State} (h : s.listenOnly = false) :
    (s.dbi.class1.length < 16 ∧
      offerClaim key s = { s with dbi := { s.dbi with class1 := s.dbi.class1 ++ [s.enter (.claim key)] } }) ∨
    (16 ≤ s.dbi.class1.length ∧ offerClaim key s = forgetClaim key (countClass1Drop s)) := by
  unfold offerClaim
  rw [if_neg (by simp [h])]
  split
  · next hroom => exact .inl ⟨hroom, rfl⟩
  · next hfull => exact .inr ⟨Nat.le_of_not_lt hfull, rfl⟩

/-! ## The slots of the updates that move no slot -/

theorem State.slot_congr {s t : State} (h : t.sub.slots = s.sub.slots) (i : Nat) : t.slot i = s.slot i := by
  rw [State.slot, State.slot, h]

theorem State.findOpen_congr {s t : State} (h : t.sub.slots = s.sub.slots) (k : Nat) : t.findOpen k = s.findOpen k := by
  rw [State.findOpen, State.findOpen, h]

/-- An entry of the table stands in one of its slots. -/
theorem State.mem_slots_iff {s : State} {e : Entry} :
    Slot.opened e ∈ s.sub.slots ↔ ∃ i, s.slot i = .opened e := by
  rw [List.mem_iff_getElem]
  constructor
  · rintro ⟨i, hi, he⟩
    exact ⟨i, (s.slot_eq_getElem i hi).trans he⟩
  · rintro ⟨i, he⟩
    have hi := s.lt_of_slot i (by simp [he])
    exact ⟨i, hi, (s.slot_eq_getElem i hi).symm.trans he⟩

/-- A key is open nowhere exactly where no entry has it. -/
theorem State.findOpen_eq_none_iff {s : State} {key : Nat} :
    s.findOpen key = none ↔ ∀ i e, s.slot i = .opened e → e.key ≠ key := by
  refine ⟨fun h i e he => State.findOpen_none h he, fun h => ?_⟩
  cases hf : s.findOpen key with
  | none => rfl
  | some i =>
    obtain ⟨-, e, he, hk⟩ := State.findOpen_some hf
    exact absurd hk (h i e he)

/-- The slot after a write. -/
theorem State.slot_setSlot (i j : Nat) (x : Slot) (s : State) :
    (s.setSlot i x).slot j = if i = j ∧ i < s.sub.slots.length then x else s.slot j := by
  by_cases hij : i = j
  · subst hij
    by_cases hi : i < s.sub.slots.length
    · rw [if_pos ⟨rfl, hi⟩, State.slot_setSlot_self _ _ _ hi]
    · rw [if_neg (fun h => hi h.2)]
      exact State.slot_congr (List.set_eq_of_length_le (Nat.le_of_not_lt hi)) i
  · rw [if_neg (fun h => hij h.1), State.slot_setSlot_ne _ _ _ _ hij]

/-! ## A RELEASE heard and a CLAIM heard, by what they call (R50 to R55) -/

/-- A law that a merge and a count keep is kept by a RELEASE heard. -/
theorem takeRelease_keeps {P : State → Prop} (m : ReleaseMsg) {s : State} (h : P s)
    (hmerge : ∀ i, P (mergeInto i m s)) (hstale : P (countStale s)) : P (takeRelease m s) := by
  unfold takeRelease; split
  · exact h
  · split
    · exact hstale
    · split
      · exact hmerge _
      · exact hstale

/-- A law that a close, a RELEASE offered and a departure forgotten keep is kept by a CLAIM heard. -/
theorem KeptByShared.takeClaim {P : State → Prop} (hP : KeptByShared P) (claimant key : Nat) {s : State} (h : P s)
    (hoffer : ∀ m {u}, P u → P (offerRelease m u)) (hforget : ∀ k {u}, P u → P (forgetDeparture k u)) :
    P (takeClaim claimant key s) := by
  unfold Machine.takeClaim; split
  · exact h
  · split
    · split
      · split
        · exact h
        · unfold releaseEntry
          dsimp only
          split
          · exact hoffer _ (hP.finishClose _ _ _ (hP.rateSlot _ _ _ _ _ h))
          · exact hP.rateSlot _ _ _ _ _ h
      · exact h
    · split
      · exact hforget _ (hoffer _ h)
      · exact h

/-! ## An ATTACH, by what it calls (R6 to R9) -/

/-- What has been checked when a new entry is made (R6, R7): the station serves, the key is not open, and the partner row is
not empty, not suspended, and permits the zone. -/
structure Admissible (key partner : Nat) (s : State) : Prop where
  serving : s.prc.serving = .serving
  bus     : s.listenOnly = false
  closed  : s.findOpen key = none
  passes  : (s.partnerRow partner).fails s.rtk.zone = false

/-- A close opens no key. -/
theorem closeSlot_findOpen_none {key : Nat} {s : State} (cause : Cause) (quiet : Bool) (i : Nat)
    (h : s.findOpen key = none) : (closeSlot cause quiet i s).findOpen key = none := by
  rw [State.findOpen_eq_none_iff] at h ⊢
  intro j e he
  by_cases hopen : ∃ e0, s.slot i = .opened e0
  · obtain ⟨e0, he0⟩ := hopen
    obtain ⟨hclosed, hothers, -⟩ := closeSlot_orders cause quiet he0
    by_cases hj : j = i
    · subst hj
      rw [he] at hclosed
      exact absurd hclosed (by simp [Slot.isOpen])
    · exact h j e ((hothers j hj).symm.trans he)
  · rw [closeSlot_not_open cause quiet fun e0 he0 => hopen ⟨e0, he0⟩] at he
    exact h j e he

theorem Admissible.closeSlot {key partner : Nat} {s : State} (h : Admissible key partner s) (cause : Cause)
    (quiet : Bool) (i : Nat) : Admissible key partner (closeSlot cause quiet i s) := by
  have ht := closeSlot_touches cause quiet i s
  obtain ⟨hserving, hbus, hclosed, hpasses⟩ := h
  refine ⟨?_, ?_, closeSlot_findOpen_none _ _ _ hclosed, ?_⟩
  · rw [ht .prc (by decide), hserving]
  · rw [State.listenOnly, State.own, ht .cfg (by decide)]; exact hbus
  · rw [State.partnerRow, ht .tbl (by decide), ht .rtk (by decide)]; exact hpasses

/-- A law that directives and closes keep, and that an admission keeps where the checks have passed, is kept by an ATTACH. -/
theorem attach_keeps {P : State → Prop} (key home : Nat) (v : Services) {s : State} (h : P s)
    (hqueue : ∀ d {u}, P u → P (queueRadio d u)) (hclose : ∀ cause quiet i {u}, P u → P (closeSlot cause quiet i u))
    (hadmit : ∀ i partner grant {u}, P u → u.firstFree = some i → Admissible key partner u →
      P (admitInto i key partner grant u)) : P (Machine.attach key home v s) := by
  have hrefuse : ∀ k r {u}, P u → P (refuse k r u) := fun _ _ _ hu => hqueue _ hu
  unfold Machine.attach; split
  · exact hrefuse _ _ h
  · next hserves =>
    simp only [Bool.or_eq_true, bne_iff_ne, ne_eq, not_or, not_not, Bool.not_eq_true] at hserves
    split
    · exact hrefuse _ _ h
    · split
      · next hclosed =>
        unfold admitChecked; split
        · exact hrefuse _ _ h
        · next row hrow =>
          dsimp only
          split
          · exact hrefuse _ _ h
          · next hsuspended =>
            split
            · exact hrefuse _ _ h
            · next hzone =>
              split
              · exact hrefuse _ _ h
              · obtain ⟨hlt, hhome, -⟩ := List.findIdx?_eq_some_iff_getElem.1 hrow
                have hget : s.partnerRow row = s.tbl.partners[row] := by
                  simp [State.partnerRow, List.getD_eq_getElem?_getD, hlt]
                have hok : Admissible key row s :=
                  ⟨hserves.1, hserves.2, hclosed, by
                    rw [Bool.and_eq_true, bne_iff_ne] at hhome
                    rw [hget] at hsuspended hzone ⊢
                    simpa [PartnerRow.fails, hhome.1] using And.intro hsuspended hzone⟩
                unfold admitNew; split
                · next i hi => exact hadmit i row _ h hi hok
                · split
                  · exact hrefuse _ _ h
                  · split
                    · dsimp only
                      split
                      · next i hi => exact hadmit i row _ (hclose _ _ _ h) hi (hok.closeSlot _ _ _)
                      · exact hrefuse _ _ (hclose _ _ _ h)
                    · exact hrefuse _ _ h
      · split
        · exact hqueue _ h
        · exact h

/-- A law that the shared operations keep, and an admission after its checks, is kept by an ATTACH. -/
theorem KeptByShared.attach {P : State → Prop} (hP : KeptByShared P) (key home : Nat) (v : Services) {s : State} (h : P s)
    (hadmit : ∀ i partner grant {u}, P u → u.firstFree = some i → Admissible key partner u →
      P (admitInto i key partner grant u)) : P (attach key home v s) :=
  attach_keeps key home v h (fun d _ hu => hP.queueRadio d hu) (fun cause quiet i _ hu => hP.closeSlot cause quiet i hu)
    hadmit

/-- The first steps of an admission (R9): the entry in its slot, its departure forgotten, the slot in the attach order. -/
def placeEntry (i key partner : Nat) (grant : Services) (s : State) : State :=
  { forgetDeparture key (s.setSlot i (.opened (s.newEntry key partner grant))) with
    sub := { s.sub with
      slots := s.sub.slots.set i (.opened (s.newEntry key partner grant))
      attachOrder := s.sub.attachOrder ++ [i] } }

theorem placeEntry_touches (i key partner : Nat) (grant : Services) (s : State) :
    Touches [.hov, .sub] s (placeEntry i key partner grant s) :=
  (forgetDeparture_touches key s).comp (.sub _ _)

/-- An admission: the entry in its place, then the answer, then the CLAIM. -/
theorem admitInto_eq (i key partner : Nat) (grant : Services) (s : State) :
    admitInto i key partner grant s =
      queueClaim key (queueRadio ((placeEntry i key partner grant s).answer (s.newEntry key partner grant))
        (placeEntry i key partner grant s)) := rfl

end Sys2Proof.Machine
end

section
/-! The laws of the store's places, of the transmit and directive queues, of deferrals, and of the drain with its frames (R17,
R19, R68, R75, R77, R165, R169, R172, R181). -/

-- One theorem after another: all at once take more threads than the check's memory holds.
set_option Elab.async false

namespace Sys2Proof.Machine

/-! ## The store and the slots that wait for it (R17, R19, R68) -/

/-- The store holds no more than its places, and slots wait only while it is full. -/
def StoreLaw (s : State) : Prop := s.bsd.store.length ≤ Config.storePlaces ∧ ClosingLaw s

theorem StoreLaw.congr {s t : State} (h : StoreLaw s) (hstore : t.bsd.store = s.bsd.store)
    (horder : t.sub.closingOrder = s.sub.closingOrder) : StoreLaw t := by
  simpa only [StoreLaw, ClosingLaw, hstore, horder] using h

/-- A record enters a store with room, where then no slot waits. -/
theorem StoreLaw.storeRecord {s t : State} (r : Stored) (hroom : s.bsd.store.length < 64) (hnone : s.sub.closingOrder = [])
    (hstore : t.bsd.store = s.bsd.store ++ [r]) (horder : t.sub.closingOrder = s.sub.closingOrder) : StoreLaw t := by
  refine ⟨?_, fun hsome => absurd (horder.trans hnone) hsome⟩
  rw [hstore, List.length_append, Config.storePlaces]
  exact hroom

theorem offerInterval_storeLaw (cause : Cause) (i : Nat) {s : State} (h : StoreLaw s) :
    StoreLaw (offerInterval cause i s) := by
  unfold offerInterval; split
  · split
    · split
      · next htakes =>
        obtain ⟨hroom, hnone⟩ := s.takesInterval_iff.1 htakes
        exact StoreLaw.storeRecord _ (by omega) hnone rfl rfl
      · split
        · exact h.congr rfl rfl
        · exact h
    · exact h.congr rfl rfl
  · exact h

theorem offerFinal_storeLaw (r : Record) (i : Nat) {s : State} (h : StoreLaw s) : StoreLaw (offerFinal r i s) := by
  rcases offerFinal_cases r i s with ⟨htakes, he⟩ | ⟨hrefused, he⟩ <;> rw [he]
  · obtain ⟨hroom, hnone⟩ := s.takesFinal_iff.1 htakes
    exact StoreLaw.storeRecord _ hroom hnone rfl rfl
  · refine ⟨h.1, fun _ => ?_⟩
    by_cases hnone : s.sub.closingOrder = []
    · have hfull : ¬ s.bsd.store.length < 64 := fun hroom => by
        rw [s.takesFinal_iff.2 ⟨hroom, hnone⟩] at hrefused
        simp at hrefused
      exact Nat.le_antisymm h.1 (Nat.le_of_not_lt hfull)
    · exact h.2 hnone

theorem finishClose_storeLaw (cause : Cause) (quiet : Bool) (i : Nat) {s : State} (h : StoreLaw s) :
    StoreLaw (finishClose cause quiet i s) := by
  by_cases hopen : ∃ e, s.slot i = .opened e
  · obtain ⟨e, he⟩ := hopen
    obtain ⟨u, hu, hsub, hbsd, -⟩ := finishClose_before_offer (cause := cause) (quiet := quiet) he
    have hlaw : StoreLaw u := h.congr (by rw [hbsd]) (by rw [hsub])
    rw [hu]
    split
    · exact offerFinal_storeLaw _ _ hlaw
    · exact hlaw.congr rfl rfl
  · have : finishClose cause quiet i s = s := by
      unfold finishClose; split
      · next e he => exact absurd ⟨e, he⟩ hopen
      · rfl
    rwa [this]

/-- Moving records into the store goes on until it is full or no slot waits. -/
theorem moveWhileRoom_storeLaw (l : List Nat) {s : State} (horder : s.sub.closingOrder = l)
    (hplaces : s.bsd.store.length ≤ Config.storePlaces) : StoreLaw (moveWhileRoom l s) := by
  induction l generalizing s with
  | nil => exact ⟨hplaces, fun hsome => absurd horder hsome⟩
  | cons i rest ih =>
    unfold moveWhileRoom; split
    · next hroom =>
      have hlen : (moveClosing i s).bsd.store.length ≤ s.bsd.store.length + 1 := by
        unfold moveClosing; dsimp only; split
        · simp
        · exact Nat.le_succ _
      have hrest : (moveClosing i s).sub.closingOrder = rest := by
        unfold moveClosing; dsimp only; split
        · simp [horder]
        · simp [horder]
      exact ih hrest (hlen.trans hroom)
    · next hfull => exact ⟨hplaces, fun _ => Nat.le_antisymm hplaces (Nat.le_of_not_lt hfull)⟩

theorem updateEntry_orders (i : Nat) (f : Entry → Entry) (s : State) :
    (s.updateEntry i f).sub.closingOrder = s.sub.closingOrder ∧
      (s.updateEntry i f).sub.attachOrder = s.sub.attachOrder ∧
      (s.updateEntry i f).sub.slots.length = s.sub.slots.length := by
  unfold State.updateEntry; split
  · simp
  · exact ⟨rfl, rfl, rfl⟩

theorem forgetClaim_orders (k : Nat) (s : State) :
    (forgetClaim k s).sub.closingOrder = s.sub.closingOrder ∧ (forgetClaim k s).sub.attachOrder = s.sub.attachOrder ∧
      (forgetClaim k s).sub.slots.length = s.sub.slots.length := by
  unfold forgetClaim; dsimp only; split
  · exact ⟨rfl, rfl, rfl⟩
  · exact updateEntry_orders _ _ _

theorem forgetClaim_storeLaw (k : Nat) {s : State} (h : StoreLaw s) : StoreLaw (forgetClaim k s) :=
  h.congr (by rw [forgetClaim_touches k s .bsd (by decide)]) (forgetClaim_orders k s).1

theorem offerRelease_storeLaw (m : ReleaseMsg) {s : State} (h : StoreLaw s) : StoreLaw (offerRelease m s) := by
  rcases offerRelease_cases m s with ⟨-, he⟩ | ⟨-, he⟩ | ⟨-, he⟩ | ⟨k, q, -, he⟩ <;> rw [he]
  · exact h
  · exact h.congr rfl rfl
  · exact h.congr rfl rfl
  · exact forgetClaim_storeLaw k (h.congr rfl rfl)

theorem queueClaim_storeLaw (k : Nat) {s : State} (h : StoreLaw s) : StoreLaw (queueClaim k s) := by
  unfold queueClaim offerClaim; split
  · exact h
  · split
    · exact h.congr rfl rfl
    · split
      · exact h.congr rfl rfl
      · exact forgetClaim_storeLaw k (h.congr rfl rfl)

theorem mergeInto_orders (i : Nat) (m : ReleaseMsg) (s : State) :
    (mergeInto i m s).sub.closingOrder = s.sub.closingOrder ∧ (mergeInto i m s).sub.attachOrder = s.sub.attachOrder ∧
      (mergeInto i m s).sub.slots.length = s.sub.slots.length := by
  unfold mergeInto; split
  · dsimp only
    split <;> simp
  · exact ⟨rfl, rfl, rfl⟩

theorem mergeInto_touches (i : Nat) (m : ReleaseMsg) (s : State) : Touches [.sub, .rch] s (mergeInto i m s) := by
  unfold mergeInto; split
  · exact .ite _ ((setSlot_touches _ _ _).comp (queueRadio_touches _ _)) (setSlot_touches _ _ _).mono
  · exact .refl _ _

theorem unbar_orders (i : Nat) (s : State) :
    (unbar i s).sub.closingOrder = s.sub.closingOrder ∧ (unbar i s).sub.attachOrder = s.sub.attachOrder ∧
      (unbar i s).sub.slots.length = s.sub.slots.length := by
  unfold unbar; split
  · split
    · simp
    · exact ⟨rfl, rfl, rfl⟩
  · exact ⟨rfl, rfl, rfl⟩

theorem storeLaw_shared : KeptByShared StoreLaw where
  frame ht h := h.congr (by rw [ht .bsd (by decide)]) (by rw [ht .sub (by decide)])
  malformed h := h.congr rfl rfl
  queueRadio _ _ h := h.congr rfl rfl
  queueTerminal _ _ h := h.congr rfl rfl
  restartSilence _ _ h := h.congr rfl rfl
  terminalPin _ _ h := h.congr rfl rfl
  announce a s h := h.congr (by rw [announce_touches a s .bsd (by decide)]) (by rw [announce_touches a s .sub (by decide)])
  offerBeacon {s} h := h.congr (by rw [offerBeacon_touches s .bsd (by decide)])
    (by rw [offerBeacon_touches s .sub (by decide)])
  rateSlot _ _ _ _ _ _ h := h.congr (by rw [rateSlot_bsd]) (rateSlot_closingOrder _ _ _ _ _ _)
  offerInterval cause i _ h := offerInterval_storeLaw cause i h
  finishClose cause quiet i _ h := finishClose_storeLaw cause quiet i h

/-- The unbarring of every entry moves no store and no order. -/
theorem unbarAll_orders (l : List Nat) (s : State) :
    (l.foldl (fun t i => unbar i t) s).sub.closingOrder = s.sub.closingOrder ∧
      (l.foldl (fun t i => unbar i t) s).sub.attachOrder = s.sub.attachOrder ∧
      (l.foldl (fun t i => unbar i t) s).sub.slots.length = s.sub.slots.length := by
  refine List.foldlRecOn (motive := fun t : State => t.sub.closingOrder = s.sub.closingOrder ∧
    t.sub.attachOrder = s.sub.attachOrder ∧ t.sub.slots.length = s.sub.slots.length) l _ ⟨rfl, rfl, rfl⟩ ?_
  intro t ⟨hc, ha, hl⟩ i _
  obtain ⟨hc', ha', hl'⟩ := unbar_orders i t
  exact ⟨hc'.trans hc, ha'.trans ha, hl'.trans hl⟩

theorem voyageStart_storeLaw {s : State} (h : StoreLaw s) : StoreLaw (voyageStart s) := by
  unfold voyageStart
  extract_lets s1 _ s2 _ s3 s4
  have h1 : StoreLaw s1 := storeLaw_shared.ratingEvent _ _ _ h
  have h4 : Touches [.sub, .rch] s3 s4 := .foldl _ (fun _ _ => unbar_touches _ _) _ _
  exact h1.congr (show s4.bsd.store = s1.bsd.store by rw [h4 .bsd (by decide)]) (unbarAll_orders _ s3).1

/-- The blocks before shore link control's step at a warm restart are made of closes and of updates beside the store. -/
theorem KeptByShared.warmBlocks {P : State → Prop} (hP : KeptByShared P) (b : Board) {s : State}
    (hports : P (restartPorts b s)) (hsub : ∀ u, P u → P { u with sub := { u.sub with unknownUsage := 0 } })
    (hhov : ∀ u, P u → P (restartHovWarm u)) (hbsd : ∀ u, P u → P (restartBsdWarm u)) : P (warmBlocks b s) := by
  refine hbsd _ (hhov _ (hsub _ (hP.sweep _ _ ?_)))
  exact hP.frame ((restartTblWarm_touches _).comp (restartRtkWarm_touches _)) hports

/-- The last two steps of a restart are made of announcements, directives and updates beside the store. -/
theorem KeptByShared.restartPrc {P : State → Prop} (hP : KeptByShared P) {s : State} (h : P s) : P (restartPrc s) :=
  hP.beside (.prc _ _) (hP.queueRadio _ (hP.emptyCover h))

theorem restartBsdWarm_store (s : State) : (restartBsdWarm s).bsd.store = s.bsd.store := by
  unfold restartBsdWarm
  split <;> simp [endDrain_bsd]

theorem beginDrain_store (count : Nat) (s : State) : (beginDrain count s).bsd.store = s.bsd.store := by
  unfold beginDrain
  dsimp only
  split
  · rw [endDrain_bsd]
  · rw [offerBill_bsd]

theorem requestDrain_store (count : Nat) (s : State) : (requestDrain count s).bsd.store = s.bsd.store := by
  unfold requestDrain; split
  · exact beginDrain_store _ _
  · rw [offerBill_bsd]
  · rfl

theorem drainEndSent_store (s : State) : (drainEndSent s).bsd.store = s.bsd.store := by
  unfold drainEndSent; split
  · dsimp only
    split
    · rfl
    · exact beginDrain_store _ _
  · rfl

/-- A BILL sent takes a record out of the store and lets the slots that wait fill it up again. -/
theorem billSent_storeLaw (b : Stored) {s : State} (h : StoreLaw s) : StoreLaw (billSent b s) := by
  have hless : (takeOutBill b s).bsd.store.length ≤ Config.storePlaces := by
    simp only [takeOutBill, List.length_drop]
    exact (Nat.sub_le _ _).trans h.1
  have hroom : StoreLaw (storeRoom (takeOutBill b s)) := moveWhileRoom_storeLaw _ rfl hless
  rw [billSent_eq]
  exact hroom.congr (by rw [(continueDrain_keeps _).1]) (by rw [continueDrain_touches _ .sub (by decide)])

theorem takeSending_storeLaw (q : TxQueue) {s : State} (h : StoreLaw s) : StoreLaw (takeSending q s) := by
  cases q with
  | class1 =>
    simp only [takeSending, class1Sent]; split
    · exact h
    · split
      · exact forgetClaim_storeLaw _ (h.congr rfl rfl)
      · exact h.congr rfl rfl
  | link => exact h.congr rfl rfl
  | beacon => exact h.congr rfl rfl
  | bill =>
    simp only [takeSending]; split
    · exact h
    · exact billSent_storeLaw _ (h.congr rfl rfl)
  | drainEnd =>
    simp only [takeSending]; split
    · exact h
    · exact h.congr (drainEndSent_store _) (by rw [drainEndSent_touches _ .sub (by decide)])
  | report => exact h.congr rfl rfl

theorem storeLaw_rest : KeptByRest [.sub, .bsd] (fun _ => True) StoreLaw where
  frame hsame h := h.congr (by rw [hsame .bsd (by decide)]) (by rw [hsame .sub (by decide)])
  powerOn _ _ _ _ := ⟨Nat.zero_le _, fun hsome => absurd rfl hsome⟩
  restartCold b s _ _ :=
    storeLaw_shared.restartPrc (storeLaw_shared.restartSlc ⟨Nat.zero_le _, fun hsome => absurd rfl hsome⟩)
  restartWarm b s _ h := storeLaw_shared.restartPrc (storeLaw_shared.restartSlc
    (storeLaw_shared.warmBlocks b (h.congr rfl rfl) (fun _ hu => hu.congr rfl rfl) (fun _ hu => hu.congr rfl rfl)
      fun u hu => hu.congr (restartBsdWarm_store u) (by rw [restartBsdWarm_touches u .sub (by decide)])))
  voyageStart _ _ h := voyageStart_storeLaw h
  takeClaim := .inr fun n k _ _ h => storeLaw_shared.takeClaim n k h (fun m _ hu => offerRelease_storeLaw m hu)
    fun _ _ hu => hu.congr rfl rfl
  takeRelease := .inr fun m s _ h => takeRelease_keeps m h
    (fun i => h.congr (by rw [mergeInto_touches i m s .bsd (by decide)]) (mergeInto_orders i m s).1) (h.congr rfl rfl)
  takeDrainRequest := .inr fun x n s _ h => by
    unfold takeDrainRequest; split
    · exact h.congr (requestDrain_store _ _) (by rw [requestDrain_touches _ _ .sub (by decide)])
    · exact h
  sending := .inr fun q s _ h _ => takeSending_storeLaw q (h.congr rfl rfl)
  attach := .inr fun k home v _ _ h => storeLaw_shared.attach k home v h fun i partner grant u hu _ _ => by
    rw [admitInto_eq]
    exact queueClaim_storeLaw k (hu.congr rfl rfl)
  usage := .inr fun i data voice s _ h =>
    h.congr (by rw [updateEntry_touches _ _ s .bsd (by decide)]) (updateEntry_orders _ _ s).1
  unknownUsage := .inr fun _ _ _ h => h.congr rfl rfl

end Sys2Proof.Machine
end

section
/-! The places and the deferrals of the transmit queues (R165, R169, R170, R172), and the places of the directive queues
(R181). -/

-- One theorem after another: all at once take more threads than the check's memory holds.
set_option Elab.async false

namespace Sys2Proof.Machine

/-! ## Transmit queues -/

/-- The transmit queues are within their places, and each frame that waits within its deferrals. -/
structure Dbi.Bounded (d : Dbi) : Prop where
  class1Places : d.class1.length ≤ Config.class1Places
  reportPlaces : d.reports.length ≤ Config.reportPlaces
  class1       : ∀ w ∈ d.class1, w.Bounded
  link         : ∀ w, d.link = some w → w.Bounded
  linkBeside   : ∀ w, d.linkBeside = some w → w.Bounded
  beacon       : ∀ w, d.beacon = some w → w.Bounded
  bill         : ∀ w, d.bill = some w → w.Bounded
  drainEnd     : ∀ w, d.drainEnd = some w → w.Bounded
  reports      : ∀ w ∈ d.reports, w.Bounded

/-- A frame enters its queue with deferral 0. -/
theorem enter_bounded (s : State) {α : Type} (x : α) : (s.enter x).Bounded := Nat.zero_le _

/-- A deferral saturates at 3. -/
theorem defer_bounded {α : Type} (w : Waiting α) : w.defer.Bounded := Nat.min_le_right _ _

theorem deferLink_bounded (b : Option (Waiting LinkMsg)) (w : Waiting LinkMsg) : (deferLink b w).Bounded := by
  cases b with
  | none => exact defer_bounded w
  | some b => exact defer_bounded w

theorem deferHead_bounded {α : Type} {q : List (Waiting α)} (h : ∀ w ∈ q, w.Bounded) : ∀ w ∈ deferHead q, w.Bounded := by
  cases q with
  | nil => exact h
  | cons x rest =>
    intro w hw
    obtain rfl | hw := List.mem_cons.1 hw
    · exact defer_bounded x
    · exact h w (List.mem_cons_of_mem _ hw)

theorem some_bounded {α : Type} {x : Waiting α} (h : x.Bounded) : ∀ w, some x = some w → w.Bounded := by
  rintro w ⟨⟩
  exact h

theorem map_bounded {α β : Type} {f : Waiting α → Waiting β} (hf : ∀ w, w.Bounded → (f w).Bounded)
    {o : Option (Waiting α)} (h : ∀ w, o = some w → w.Bounded) : ∀ w, o.map f = some w → w.Bounded := by
  intro w hw
  obtain ⟨x, hx, rfl⟩ := Option.map_eq_some_iff.1 hw
  exact hf x (h x hx)

/-- The queue without its oldest CLAIM holds frames of the queue alone. -/
theorem splitClaim_subset {q q' : List (Waiting Class1)} {k : Nat} (h : splitClaim q = some (k, q')) :
    ∀ w ∈ q', w ∈ q := by
  induction q generalizing q' with
  | nil => simp [splitClaim] at h
  | cons x rest ih =>
    unfold splitClaim at h
    split at h
    · simp only [Option.some.injEq, Prod.mk.injEq] at h
      obtain ⟨-, rfl⟩ := h
      exact fun w => List.mem_cons_of_mem _
    · simp only [Option.map_eq_some_iff, Prod.mk.injEq] at h
      obtain ⟨⟨k', r⟩, hr, rfl, rfl⟩ := h
      intro w hw
      obtain rfl | hw := List.mem_cons.1 hw
      · exact List.mem_cons_self
      · exact List.mem_cons_of_mem _ (ih hr w hw)

theorem splitFreeClaim_subset {b : Bool} {q q' : List (Waiting Class1)} {k : Nat}
    (h : splitFreeClaim b q = some (k, q')) : ∀ w ∈ q', w ∈ q := by
  unfold splitFreeClaim at h
  split at h
  · split at h
    · simp at h
    · simp only [Option.map_eq_some_iff, Prod.mk.injEq] at h
      obtain ⟨⟨k', r⟩, hr, rfl, rfl⟩ := h
      intro w hw
      obtain rfl | hw := List.mem_cons.1 hw
      · exact List.mem_cons_self
      · exact List.mem_cons_of_mem _ (splitClaim_subset hr w hw)
  · exact splitClaim_subset h

theorem append_bounded {α : Type} {q : List (Waiting α)} {x : Waiting α} (h : ∀ w ∈ q, w.Bounded) (hx : x.Bounded) :
    ∀ w ∈ q ++ [x], w.Bounded := by
  intro w hw
  obtain hw | hw := List.mem_append.1 hw
  · exact h w hw
  · exact List.mem_singleton.1 hw ▸ hx

theorem offerLink_bounded (m : LinkMsg) {s : State} (h : s.dbi.Bounded) : (offerLink m s).dbi.Bounded := by
  unfold offerLink; split
  · exact h
  · split
    · exact { h with link := some_bounded (enter_bounded s m) }
    · next w hw =>
      split
      · refine { h with linkBeside := ?_ }
        cases hb : s.dbi.linkBeside with
        | none => exact some_bounded (enter_bounded s m)
        | some b => exact some_bounded (x := { b with frame := m }) (h.linkBeside b hb)
      · exact { h with link := some_bounded (x := { w with frame := m }) (h.link w hw) }

theorem offerRelease_bounded (m : ReleaseMsg) {s : State} (h : s.dbi.Bounded) : (offerRelease m s).dbi.Bounded := by
  rcases offerRelease_cases m s with ⟨-, he⟩ | ⟨hroom, he⟩ | ⟨-, he⟩ | ⟨k, q, hsplit, he⟩ <;> rw [he]
  · exact h
  · refine { h with class1Places := ?_, class1 := append_bounded h.class1 (enter_bounded s _) }
    rw [List.length_append, Config.class1Places]
    exact hroom
  · exact { h with }
  · rw [forgetClaim_touches _ _ .dbi (by decide)]
    have hlen := splitFreeClaim_length hsplit
    have hplaces := h.class1Places
    refine { h with
      class1Places := ?_
      class1 := append_bounded (fun w hw => h.class1 w (splitFreeClaim_subset hsplit w hw)) (enter_bounded s _) }
    simp only [countClass1Drop_dbi, List.length_append, List.length_singleton]
    omega

theorem queueClaim_bounded (k : Nat) {s : State} (h : s.dbi.Bounded) : (queueClaim k s).dbi.Bounded := by
  unfold queueClaim offerClaim; split
  · exact h
  · split
    · exact h
    · split
      · next hroom =>
        refine { h with class1Places := ?_, class1 := append_bounded h.class1 (enter_bounded _ _) }
        rw [List.length_append]
        exact hroom
      · rw [forgetClaim_touches _ _ .dbi (by decide)]
        exact { h with }

theorem offerReport_bounded (m : ReportMsg) {s : State} (h : s.dbi.Bounded) : (offerReport m s).dbi.Bounded := by
  unfold offerReport; split
  · exact h
  · split
    · next hroom =>
      refine { h with reportPlaces := ?_, reports := append_bounded h.reports (enter_bounded s _) }
      rw [List.length_append]
      exact hroom
    · exact { h with }

theorem placeBill_bounded (r : Stored) {s : State} (h : s.dbi.Bounded) : (placeBill r s).dbi.Bounded := by
  unfold placeBill; split
  · exact h
  · exact { h with bill := some_bounded (enter_bounded s r) }

theorem offerBill_bounded {s : State} (h : s.dbi.Bounded) : (offerBill s).dbi.Bounded := by
  unfold offerBill; split
  · exact placeBill_bounded _ h
  · exact h

theorem endDrain_bounded (status : StopStatus) (sent : Nat) {s : State} (h : s.dbi.Bounded) :
    (endDrain status sent s).dbi.Bounded := by
  unfold endDrain placeDrainEnd; split
  · exact h
  · exact { h with drainEnd := some_bounded (enter_bounded _ _) }

theorem beginDrain_bounded (count : Nat) {s : State} (h : s.dbi.Bounded) : (beginDrain count s).dbi.Bounded := by
  unfold beginDrain
  dsimp only
  split
  · exact endDrain_bounded _ _ h
  · exact offerBill_bounded h

theorem takeDrainRequest_bounded (x n : Nat) {s : State} (h : s.dbi.Bounded) :
    (takeDrainRequest x n s).dbi.Bounded := by
  unfold takeDrainRequest requestDrain; split
  · split
    · exact beginDrain_bounded _ h
    · exact offerBill_bounded h
    · exact h
  · exact h

theorem continueDrain_bounded {s : State} (h : s.dbi.Bounded) : (continueDrain s).dbi.Bounded := by
  unfold continueDrain; split
  · exact endDrain_bounded _ _ h
  · split
    · exact endDrain_bounded _ _ h
    · exact offerBill_bounded h
  · exact h

theorem takeSending_bounded (q : TxQueue) {s : State} (h : s.dbi.Bounded) : (takeSending q s).dbi.Bounded := by
  cases q with
  | class1 =>
    simp only [takeSending, class1Sent]; split
    · exact h
    · next w rest hq =>
      have htail : Dbi.Bounded { s.dbi with class1 := rest } :=
        { h with
          class1Places := by have := h.class1Places; rw [hq, List.length_cons] at this; exact Nat.le_of_succ_le this
          class1 := fun x hx => h.class1 x (hq ▸ List.mem_cons_of_mem _ hx) }
      split
      · rw [forgetClaim_touches _ _ .dbi (by decide)]
        exact htail
      · exact htail
  | link => exact { h with link := h.linkBeside, linkBeside := fun _ => nofun }
  | beacon => exact { h with beacon := fun _ => nofun }
  | bill =>
    simp only [takeSending]; split
    · exact h
    · next w _ =>
      have hnone : Dbi.Bounded { s.dbi with bill := none } := { h with bill := fun _ => nofun }
      rw [billSent_eq]
      exact continueDrain_bounded (by rw [storeRoom_touches _ .dbi (by decide)]; exact hnone)
  | drainEnd =>
    simp only [takeSending]; split
    · exact h
    · have hnone : Dbi.Bounded { s.dbi with drainEnd := none } := { h with drainEnd := fun _ => nofun }
      unfold drainEndSent; split
      · dsimp only
        split
        · exact hnone
        · exact beginDrain_bounded _ hnone
      · exact hnone
  | report =>
    refine { h with reportPlaces := ?_, reports := fun w hw => h.reports w (List.mem_of_mem_drop hw) }
    simp only [takeSending, List.length_drop]
    exact (Nat.sub_le _ _).trans h.reportPlaces

theorem loseFrame_bounded {d : Dbi} (h : d.Bounded) : (loseFrame d).Bounded := by
  unfold loseFrame; split
  · exact h
  · exact { h with class1Places := by rw [deferHead_length]; exact h.class1Places, class1 := deferHead_bounded h.class1 }
  · exact { h with link := map_bounded (fun _ _ => deferLink_bounded _ _) h.link, linkBeside := fun _ => nofun }
  · exact { h with beacon := map_bounded (fun w _ => defer_bounded w) h.beacon }
  · exact { h with bill := map_bounded (fun w _ => defer_bounded w) h.bill }
  · exact { h with drainEnd := map_bounded (fun w _ => defer_bounded w) h.drainEnd }
  · exact { h with
      reportPlaces := by rw [deferHead_length]; exact h.reportPlaces, reports := deferHead_bounded h.reports }

theorem startFrame_bounded {s : State} (h : s.dbi.Bounded) : (startFrame s).dbi.Bounded := by
  unfold startFrame; split
  · exact h
  · split
    · exact h
    · next q _ =>
      cases q with
      | beacon => exact { h with
          beacon := map_bounded (f := fun w => { w with frame := some s.buildBeacon }) (fun _ hw => hw) h.beacon }
      | _ => exact { h with }

theorem countReceiveError_bounded (c : RxCheck) {d : Dbi} (h : d.Bounded) : (countReceiveError c d).Bounded := by
  cases c <;> exact { h with }

theorem reset_bounded : Dbi.Bounded .reset :=
  ⟨Nat.zero_le _, Nat.zero_le _, fun _ => nofun, fun _ => nofun, fun _ => nofun, fun _ => nofun, fun _ => nofun,
    fun _ => nofun, fun _ => nofun⟩

theorem bounded_of_touches {bs : List Block} {s t : State} (h : s.dbi.Bounded) (ht : Touches bs s t)
    (hbs : Block.dbi ∉ bs) : t.dbi.Bounded := ht .dbi hbs ▸ h

theorem bounded_shared : KeptByShared (fun s => s.dbi.Bounded) where
  frame ht h := bounded_of_touches h ht (by decide)
  malformed h := h
  queueRadio _ _ h := h
  queueTerminal _ _ h := h
  restartSilence _ _ h := h
  terminalPin _ _ h := h
  announce _ _ h := offerLink_bounded _ h
  offerBeacon {s} h := by
    unfold offerBeacon; split
    · exact h
    · exact { h with beacon := some_bounded (enter_bounded s none) }
  rateSlot final quiet zone link i s h := bounded_of_touches h (rateSlot_touches final quiet zone link i s) (by decide)
  offerInterval cause i s h := bounded_of_touches h (offerInterval_touches cause i s) (by decide)
  finishClose cause quiet i s h := bounded_of_touches h (finishClose_touches cause quiet i s) (by decide)

theorem bounded_rest : KeptByRest [.dbi] (fun _ => True) (fun s => s.dbi.Bounded) where
  frame hsame h := hsame .dbi (by decide) ▸ h
  powerOn _ _ _ _ := reset_bounded
  restartCold _ _ _ _ := bounded_shared.restartPrc (bounded_shared.restartSlc reset_bounded)
  restartWarm b _ _ _ := bounded_shared.restartPrc (bounded_shared.restartSlc
    (bounded_shared.warmBlocks b reset_bounded (fun _ hu => hu) (fun _ hu => hu) fun u hu => by
      unfold restartBsdWarm; split
      · exact hu
      · exact endDrain_bounded _ _ hu
      · exact endDrain_bounded _ _ hu))
  voyageStart s _ h := bounded_of_touches h (voyageStart_touches s) (by decide)
  takeClaim := .inr fun n k _ _ h => bounded_shared.takeClaim n k h (fun m _ hu => offerRelease_bounded m hu)
    fun _ _ hu => hu
  takeDrainRequest := .inr fun x n _ _ h => takeDrainRequest_bounded x n h
  takeQuery := .inr fun x s _ h => by
    unfold takeQuery; split
    · exact offerReport_bounded _ h
    · exact h
  receiveError := .inr fun c _ _ h => countReceiveError_bounded c h
  startFrame := .inr fun _ _ h => startFrame_bounded h
  loseFrame := .inr fun _ _ h => loseFrame_bounded h
  loseLine := .inr fun s _ h => by
    unfold loseLine; split
    · exact { loseFrame_bounded h with }
    · exact h
  sending := .inr fun q s _ h _ => takeSending_bounded q (s := { s with dbi := { s.dbi with onLine := none } }) { h with }
  attach := .inr fun k home v _ _ h => bounded_shared.attach k home v h fun i partner grant u hu _ _ => by
    rw [admitInto_eq]
    exact queueClaim_bounded k hu

/-! ## Directive queues -/

/-- The two directive queues are within their places. -/
def DirectivePlaces (s : State) : Prop :=
  s.rch.queue.length ≤ Config.radioPlaces ∧ s.tch.queue.length ≤ Config.terminalPlaces

theorem Chan.enqueue_places {δ : Type} (places : Nat) (gate : Bool) (d : δ) {c : Chan δ}
    (h : c.queue.length ≤ places) : (c.enqueue places gate d).queue.length ≤ places := by
  unfold Chan.enqueue; split
  · exact h
  · next hroom =>
    rw [List.length_append]
    exact Nat.lt_of_not_le hroom

theorem Chan.sent_places {δ : Type} (places : Nat) (gate : Bool) {c : Chan δ} (h : c.queue.length ≤ places) :
    (c.sent gate).queue.length ≤ places := by
  unfold Chan.sent; split
  · simp only [Chan.start, List.length_drop]
    exact (Nat.sub_le _ _).trans h
  · exact h

theorem DirectivePlaces.queueRadio (d : RadioDirective) {s : State} (h : DirectivePlaces s) :
    DirectivePlaces (queueRadio d s) := ⟨Chan.enqueue_places _ _ _ h.1, h.2⟩

theorem DirectivePlaces.of_touches {bs : List Block} {s t : State} (h : DirectivePlaces s) (ht : Touches bs s t)
    (hr : Block.rch ∉ bs) (htch : Block.tch ∉ bs) : DirectivePlaces t :=
  ⟨(ht .rch hr).1 ▸ h.1, ht .tch htch ▸ h.2⟩

theorem directivePlaces_shared : KeptByShared DirectivePlaces where
  frame ht h := h.of_touches ht (by decide) (by decide)
  malformed h := h
  queueRadio d _ h := h.queueRadio d
  queueTerminal _ _ h := ⟨h.1, Chan.enqueue_places _ _ _ h.2⟩
  restartSilence _ _ h := h
  terminalPin _ _ h := h
  announce a s h := h.of_touches (announce_touches a s) (by decide) (by decide)
  offerBeacon {s} h := h.of_touches (offerBeacon_touches s) (by decide) (by decide)
  rateSlot final quiet zone link i s h := by
    unfold rateSlot; split
    · dsimp only
      split
      · exact h.queueRadio (s := s.setSlot i _) _
      · exact h
    · exact h
  offerInterval cause i s h := h.of_touches (offerInterval_touches cause i s) (by decide) (by decide)
  finishClose cause quiet i s h := by
    by_cases hopen : ∃ e, s.slot i = .opened e
    · obtain ⟨e, he⟩ := hopen
      have hrch := (finishClose_departure_directive (cause := cause) (quiet := quiet) he).2
      refine ⟨?_, finishClose_touches cause quiet i s .tch (by decide) ▸ h.2⟩
      rw [hrch]
      split
      · exact (h.queueRadio _).1
      · exact h.1
    · unfold finishClose; split
      · next e he => exact absurd ⟨e, he⟩ hopen
      · exact h

theorem directivePlaces_rest : KeptByRest [.rch, .tch] (fun _ => True) DirectivePlaces where
  frame hsame h := ⟨(hsame .rch (by decide)).1 ▸ h.1, hsame .tch (by decide) ▸ h.2⟩
  powerOn p s _ _ := DirectivePlaces.queueRadio .dormant (s := { s with rch := .reset, tch := .reset })
    ⟨Nat.zero_le _, Nat.zero_le _⟩
  restartCold _ _ _ _ :=
    directivePlaces_shared.restartPrc (directivePlaces_shared.restartSlc ⟨Nat.zero_le _, Nat.zero_le _⟩)
  restartWarm b _ _ _ := directivePlaces_shared.restartPrc (directivePlaces_shared.restartSlc
    (directivePlaces_shared.warmBlocks b ⟨Nat.zero_le _, Nat.zero_le _⟩ (fun _ hu => hu) (fun _ hu => hu)
      fun u hu => hu.of_touches (restartBsdWarm_touches u) (by decide) (by decide)))
  voyageStart s _ h := by
    unfold voyageStart
    extract_lets s1 _ s2 _ s3 s4
    have h1 : DirectivePlaces s1 := directivePlaces_shared.ratingEvent _ _ _ h
    refine List.foldlRecOn (motive := DirectivePlaces) s3.sub.attachOrder _ h1 fun u hu i _ => ?_
    unfold unbar; split
    · split
      · exact hu.queueRadio (s := u.setSlot i _) _
      · exact hu
    · exact hu
  takeClaim := .inr fun n k _ _ h => directivePlaces_shared.takeClaim n k h
    (fun m u hu => hu.of_touches (offerRelease_touches m u) (by decide) (by decide)) fun _ _ hu => hu
  takeRelease := .inr fun m s _ h => takeRelease_keeps m h (fun i => by
    unfold mergeInto; split
    · dsimp only
      split
      · exact h.queueRadio (s := s.setSlot i _) _
      · exact h
    · exact h) h
  attach := .inr fun k home v _ _ h => directivePlaces_shared.attach k home v h fun i partner grant u hu _ _ => by
    rw [admitInto_eq]
    refine DirectivePlaces.of_touches ?_ (queueClaim_touches k _) (by decide) (by decide)
    exact DirectivePlaces.queueRadio _ (hu.of_touches (placeEntry_touches i k partner grant u) (by decide) (by decide))
  radioGood := .inr fun _ _ h => h
  radioDown := .inr fun _ _ h => h
  huntRadio := .inr fun _ _ h => h
  terminalGood := .inr fun _ _ h => h
  terminalDown := .inr fun _ _ h => h
  huntTerminal := .inr fun _ _ h => h
  messageError := .inr fun ch e s _ h => by
    have hqueue : ∀ {δ : Type} (c : Chan δ), (c.messageError s.timebase e).queue = c.queue := fun c => by
      unfold Chan.messageError
      dsimp only
      split <;> rfl
    unfold messageError; split
    · exact h
    · split
      · exact ⟨(hqueue s.rch).symm ▸ h.1, h.2⟩
      · split
        · exact ⟨h.1, (hqueue s.tch).symm ▸ h.2⟩
        · exact h
  overrun := .inr fun ch s _ h => by
    unfold overrun; split
    · exact h
    · split
      · exact h
      · exact h
  directiveSent := .inr fun ch s _ h => by
    unfold directiveSent radioSent; split
    · split
      · exact ⟨Chan.sent_places _ _ h.1, h.2⟩
      · exact h
    · exact ⟨h.1, Chan.sent_places _ _ h.2⟩
  markHoldEnd := .inr fun ch s _ h => by
    cases ch with
    | radio => exact h
    | terminal => exact h
  holdReleased := .inr fun _ _ h => h

end Sys2Proof.Machine
end

section
/-! The drain with its frames (R75, R77), and with it all the laws of the places. -/

-- One theorem after another: all at once take more threads than the check's memory holds.
set_option Elab.async false

namespace Sys2Proof.Machine

/-- A law that a reflexive relation kept by the shared operations hands on is kept by them. -/
theorem KeptByShared.of_relation {R : State → State → Prop} {P : State → Prop} (hR : ∀ s, KeptByShared (R s))
    (hrefl : ∀ s, R s s) (hP : ∀ {s t}, R s t → P s → P t) : KeptByShared P where
  frame {s _} ht h := hP ((hR s).frame ht (hrefl s)) h
  malformed {s} h := hP ((hR s).malformed (hrefl s)) h
  queueRadio d s h := hP ((hR s).queueRadio d (hrefl s)) h
  queueTerminal d s h := hP ((hR s).queueTerminal d (hrefl s)) h
  restartSilence now s h := hP ((hR s).restartSilence now (hrefl s)) h
  terminalPin level s h := hP ((hR s).terminalPin level (hrefl s)) h
  announce a s h := hP ((hR s).announce a (hrefl s)) h
  offerBeacon {s} h := hP ((hR s).offerBeacon (hrefl s)) h
  rateSlot final quiet zone link i s h := hP ((hR s).rateSlot final quiet zone link i (hrefl s)) h
  offerInterval cause i s h := hP ((hR s).offerInterval cause i (hrefl s)) h
  finishClose cause quiet i s h := hP ((hR s).finishClose cause quiet i (hrefl s)) h

/-! ## What the shared operations do to the store and the drain -/

/-- Records may have joined the tail of the store; the tally, the drain and its two frames stay. -/
structure DrainKept (s t : State) : Prop where
  store      : s.bsd.store <+: t.bsd.store
  tallyWord  : t.bsd.tallyWord = s.bsd.tallyWord
  tallyCount : t.bsd.tallyCount = s.bsd.tallyCount
  drain      : t.bsd.drain = s.bsd.drain
  bill       : t.dbi.bill = s.dbi.bill
  drainEnd   : t.dbi.drainEnd = s.dbi.drainEnd

theorem DrainKept.refl (s : State) : DrainKept s s := ⟨List.prefix_refl _, rfl, rfl, rfl, rfl, rfl⟩

theorem DrainKept.congr {s t u : State} (h : DrainKept s t) (hbsd : u.bsd = t.bsd) (hbill : u.dbi.bill = t.dbi.bill)
    (hend : u.dbi.drainEnd = t.dbi.drainEnd) : DrainKept s u where
  store := hbsd ▸ h.store
  tallyWord := hbsd ▸ h.tallyWord
  tallyCount := hbsd ▸ h.tallyCount
  drain := hbsd ▸ h.drain
  bill := hbill.trans h.bill
  drainEnd := hend.trans h.drainEnd

theorem DrainKept.of_touches {bs : List Block} {s t u : State} (h : DrainKept s t) (ht : Touches bs t u)
    (hb : Block.bsd ∉ bs) (hd : Block.dbi ∉ bs) : DrainKept s u :=
  h.congr (ht .bsd hb) (by rw [ht .dbi hd]) (by rw [ht .dbi hd])

theorem DrainKept.storeRecord {s t : State} (r : Record) (h : DrainKept s t) : DrainKept s (storeRecord r t) :=
  { h with store := h.store.trans (List.prefix_append _ _) }

theorem DrainKept.setSlot {s t : State} (i : Nat) (x : Slot) (h : DrainKept s t) : DrainKept s (t.setSlot i x) :=
  h.congr rfl rfl rfl

theorem offerFinal_drainKept (r : Record) (i : Nat) {s t : State} (h : DrainKept s t) : DrainKept s (offerFinal r i t) := by
  rcases offerFinal_cases r i t with ⟨-, he⟩ | ⟨-, he⟩ <;> rw [he]
  · exact (h.storeRecord r).setSlot i _
  · exact h.congr rfl rfl rfl

theorem drainKept_shared (s : State) : KeptByShared (DrainKept s) where
  frame ht h := h.of_touches ht (by decide) (by decide)
  malformed h := h.congr rfl rfl rfl
  queueRadio _ _ h := h.congr rfl rfl rfl
  queueTerminal _ _ h := h.congr rfl rfl rfl
  restartSilence _ _ h := h.congr rfl rfl rfl
  terminalPin _ _ h := h.congr rfl rfl rfl
  announce a t h := by
    obtain ⟨l, b, hd⟩ := announce_dbi a t
    exact h.congr (announce_touches a t .bsd (by decide)) (by rw [hd]) (by rw [hd])
  offerBeacon {t} h := by
    obtain ⟨b, hd⟩ := offerBeacon_dbi t
    exact h.congr (offerBeacon_touches t .bsd (by decide)) (by rw [hd]) (by rw [hd])
  rateSlot final quiet zone link i t h := h.of_touches (rateSlot_touches final quiet zone link i t) (by decide) (by decide)
  offerInterval cause i t h := by
    unfold offerInterval; split
    · split
      · split
        · exact (h.storeRecord _).setSlot i _
        · split
          · exact h.setSlot i _
          · exact h
      · exact h.setSlot i _
    · exact h
  finishClose cause quiet i t h := by
    unfold finishClose; split
    · extract_lets r _ s1 s2 s3
      have h3 : DrainKept s s3 := by
        refine h.of_touches (bs := [.sub, .hov, .rch]) ?_ (by decide) (by decide)
        have h1 : Touches [.sub] t s1 := .sub t _
        have h2 : Touches [.hov] s1 s2 := .ite _ (departureJoin_touches _ _) (.refl _ _)
        have h3 : Touches [.rch] s2 s3 := .ite _ (queueRadio_touches _ _) (.refl _ _)
        exact (h1.comp h2 (cs := [.sub, .hov])).comp h3
      split
      · exact offerFinal_drainKept _ _ h3
      · exact h3.setSlot i _
    · exact h

/-! ## The law of the drain (R75, R77) -/

theorem DrainLaw.of_kept {s t : State} (h : DrainKept s t) (hlaw : DrainLaw s) : DrainLaw t := by
  obtain ⟨hone, hhead, hrunning, hending⟩ := hlaw
  rw [← h.bill] at hone hhead hrunning
  rw [← h.drainEnd] at hone hending
  rw [← h.drain] at hrunning hending
  refine ⟨hone, fun w hw => ?_, hrunning, hending⟩
  obtain ⟨rest, hrest⟩ := h.store
  rw [← hrest, List.head?_append, hhead w hw]
  rfl

theorem drainLaw_shared : KeptByShared DrainLaw := .of_relation drainKept_shared DrainKept.refl DrainLaw.of_kept

/-- No BILL waits, and a DRAIN-END only in a drain that is ending: what a restart leaves of the drain's frames. -/
def NoBill (s : State) : Prop := s.dbi.bill = none ∧ (s.dbi.drainEnd.isSome = true → ∃ n w, s.bsd.drain = .ending n w)

theorem NoBill.drainLaw {s : State} (h : NoBill s) : DrainLaw s :=
  ⟨.inl h.1, fun w hw => absurd (h.1.symm.trans hw) (by simp), fun hsome => by simp [h.1] at hsome, h.2⟩

theorem noBill_shared : KeptByShared NoBill :=
  .of_relation drainKept_shared DrainKept.refl fun h hno => ⟨h.bill.trans hno.1, by rw [h.drainEnd, h.drain]; exact hno.2⟩

theorem endDrain_noBill (status : StopStatus) (sent : Nat) {s : State} (h : s.dbi.bill = none) :
    NoBill (endDrain status sent s) := by
  refine ⟨?_, fun _ => ⟨sent, none, by rw [endDrain_bsd]⟩⟩
  unfold endDrain placeDrainEnd
  split
  · exact h
  · exact h

theorem offerBill_drainLaw {s : State} (h : DrainLaw s) : DrainLaw (offerBill s) := by
  unfold offerBill; split
  · next left sent r rest hdrain hstore hbill =>
    have hnone : s.dbi.drainEnd = none := by
      cases hend : s.dbi.drainEnd with
      | none => rfl
      | some w =>
        obtain ⟨n, x, hending⟩ := h.2.2.2 (by rw [hend]; rfl)
        rw [hdrain] at hending
        cases hending
    unfold placeBill; split
    · exact h
    · refine ⟨.inr hnone, fun w hw => ?_, fun _ => ⟨left, sent, hdrain⟩, h.2.2.2⟩
      cases hw
      simp [hstore, State.enter]
  · exact h

theorem beginDrain_drainLaw (count : Nat) {s : State} (hbill : s.dbi.bill = none) (hend : s.dbi.drainEnd = none) :
    DrainLaw (beginDrain count s) := by
  unfold beginDrain
  extract_lets _ s1
  split
  · exact (endDrain_noBill _ _ hbill).drainLaw
  · exact offerBill_drainLaw (NoBill.drainLaw ⟨hbill, fun hsome => by simp [s1, hend] at hsome⟩)

/-- Outside a drain that runs no BILL waits. -/
theorem DrainLaw.bill_eq_none {s : State} (h : DrainLaw s) (hdrain : ∀ r n, s.bsd.drain ≠ .running r n) :
    s.dbi.bill = none := by
  cases hb : s.dbi.bill with
  | none => rfl
  | some w =>
    obtain ⟨r, n, hr⟩ := h.2.2.1 (by rw [hb]; rfl)
    exact absurd hr (hdrain r n)

/-- Outside a drain that is ending no DRAIN-END waits. -/
theorem DrainLaw.drainEnd_eq_none {s : State} (h : DrainLaw s) (hdrain : ∀ n w, s.bsd.drain ≠ .ending n w) :
    s.dbi.drainEnd = none := by
  cases hb : s.dbi.drainEnd with
  | none => rfl
  | some w =>
    obtain ⟨n, x, hx⟩ := h.2.2.2 (by rw [hb]; rfl)
    exact absurd hx (hdrain n x)

theorem requestDrain_drainLaw (count : Nat) {s : State} (h : DrainLaw s) : DrainLaw (requestDrain count s) := by
  unfold requestDrain; split
  · next hidle =>
    exact beginDrain_drainLaw _ (h.bill_eq_none (by simp [hidle])) (h.drainEnd_eq_none (by simp [hidle]))
  · next left sent hrunning =>
    have hend := h.drainEnd_eq_none (by simp [hrunning])
    refine offerBill_drainLaw ⟨.inr hend, h.2.1, fun _ => ⟨count, sent, rfl⟩, fun hsome => ?_⟩
    simp [hend] at hsome
  · next sent waiting hending =>
    exact NoBill.drainLaw ⟨h.bill_eq_none (by simp [hending]), fun _ => ⟨sent, some count, rfl⟩⟩

theorem continueDrain_drainLaw {s : State} (hbill : s.dbi.bill = none) (hend : s.dbi.drainEnd = none) :
    DrainLaw (continueDrain s) := by
  have hlaw : DrainLaw s := NoBill.drainLaw ⟨hbill, fun hsome => by simp [hend] at hsome⟩
  unfold continueDrain; split
  · exact (endDrain_noBill _ _ hbill).drainLaw
  · split
    · exact (endDrain_noBill _ _ hbill).drainLaw
    · exact offerBill_drainLaw hlaw
  · exact hlaw

theorem drainEndSent_drainLaw {s : State} (h : DrainLaw s) (hend : s.dbi.drainEnd = none) : DrainLaw (drainEndSent s) := by
  unfold drainEndSent; split
  · next n waiting hending =>
    have hbill := h.bill_eq_none (by simp [hending])
    dsimp only
    split
    · exact NoBill.drainLaw ⟨hbill, fun hsome => by simp [hend] at hsome⟩
    · exact beginDrain_drainLaw _ hbill hend
  · exact h

theorem DrainLaw.congr {s t : State} (h : DrainLaw s) (hbsd : t.bsd = s.bsd) (hbill : t.dbi.bill = s.dbi.bill)
    (hend : t.dbi.drainEnd = s.dbi.drainEnd) : DrainLaw t := h.of_kept ((DrainKept.refl s).congr hbsd hbill hend)

/-- A DRAIN-END that leaves its place leaves the law. -/
theorem DrainLaw.without_drainEnd {s : State} (h : DrainLaw s) :
    DrainLaw { s with dbi := { s.dbi with drainEnd := none } } :=
  ⟨.inr rfl, h.2.1, h.2.2.1, fun hsome => by simp at hsome⟩

theorem takeSending_drainLaw (q : TxQueue) {s : State} (h : DrainLaw s) : DrainLaw (takeSending q s) := by
  cases q with
  | class1 =>
    simp only [takeSending, class1Sent]; split
    · exact h
    · split
      · exact DrainLaw.of_kept ((DrainKept.refl _).of_touches (forgetClaim_touches _ _) (by decide) (by decide))
          (h.congr rfl rfl rfl)
      · exact h.congr rfl rfl rfl
  | link => exact h.congr rfl rfl rfl
  | beacon => exact h.congr rfl rfl rfl
  | bill =>
    simp only [takeSending]; split
    · exact h
    · next w hw =>
      obtain ⟨r, n, hrunning⟩ := h.2.2.1 (by rw [hw]; rfl)
      have hend := h.drainEnd_eq_none (by simp [hrunning])
      rw [billSent_eq]
      exact continueDrain_drainLaw (by rw [storeRoom_touches _ .dbi (by decide)]; rfl)
        (by rw [storeRoom_touches _ .dbi (by decide)]; exact hend)
  | drainEnd =>
    simp only [takeSending]; split
    · exact h
    · exact drainEndSent_drainLaw h.without_drainEnd rfl
  | report => exact h.congr rfl rfl rfl

theorem offerRelease_drainFrames (m : ReleaseMsg) (s : State) :
    (offerRelease m s).dbi.bill = s.dbi.bill ∧ (offerRelease m s).dbi.drainEnd = s.dbi.drainEnd := by
  rcases offerRelease_cases m s with ⟨-, he⟩ | ⟨-, he⟩ | ⟨-, he⟩ | ⟨k, q, -, he⟩ <;> rw [he]
  · exact ⟨rfl, rfl⟩
  · exact ⟨rfl, rfl⟩
  · exact ⟨rfl, rfl⟩
  · rw [forgetClaim_touches _ _ .dbi (by decide)]
    exact ⟨rfl, rfl⟩

theorem queueClaim_drainFrames (k : Nat) (s : State) :
    (queueClaim k s).dbi.bill = s.dbi.bill ∧ (queueClaim k s).dbi.drainEnd = s.dbi.drainEnd := by
  unfold queueClaim offerClaim; split
  · exact ⟨rfl, rfl⟩
  · split
    · exact ⟨rfl, rfl⟩
    · split
      · exact ⟨rfl, rfl⟩
      · rw [forgetClaim_touches _ _ .dbi (by decide)]
        exact ⟨rfl, rfl⟩

/-- A frame that loses the line keeps its content: a BILL and a DRAIN-END wait on, deferred. -/
theorem loseFrame_drainLaw {s : State} (h : DrainLaw s) : DrainLaw { s with dbi := loseFrame s.dbi } := by
  obtain ⟨hone, hhead, hrunning, hending⟩ := h
  unfold loseFrame; split
  · exact ⟨hone, hhead, hrunning, hending⟩
  · exact ⟨hone, hhead, hrunning, hending⟩
  · exact ⟨hone, hhead, hrunning, hending⟩
  · exact ⟨hone, hhead, hrunning, hending⟩
  · refine ⟨hone.imp (fun hb => by rw [hb]; rfl) id, fun w hw => ?_, fun hsome => hrunning (by simpa using hsome), hending⟩
    obtain ⟨x, hx, rfl⟩ := Option.map_eq_some_iff.1 hw
    exact hhead x hx
  · exact ⟨hone.imp id (fun he => by rw [he]; rfl), hhead, hrunning, fun hsome => hending (by simpa using hsome)⟩
  · exact ⟨hone, hhead, hrunning, hending⟩

theorem startFrame_drainFrames (s : State) :
    (startFrame s).dbi.bill = s.dbi.bill ∧ (startFrame s).dbi.drainEnd = s.dbi.drainEnd := by
  unfold startFrame; split
  · exact ⟨rfl, rfl⟩
  · split
    · exact ⟨rfl, rfl⟩
    · next q _ =>
      cases q with
      | beacon => exact ⟨rfl, rfl⟩
      | _ => exact ⟨rfl, rfl⟩

/-- A voyage start lets records join the store and zeroes the tally; the drain goes on. -/
theorem voyageStart_drainLaw {s : State} (h : DrainLaw s) : DrainLaw (voyageStart s) := by
  unfold voyageStart
  extract_lets s1 _ s2 _ s3 s4
  have h1 : DrainLaw s1 := drainLaw_shared.ratingEvent _ _ _ h
  have h4 : Touches [.sub, .rch] s3 s4 := .foldl _ (fun _ _ => unbar_touches _ _) _ _
  have hlaw : DrainLaw s4 := h1.congr (h4 .bsd (by decide)) (by rw [h4 .dbi (by decide)]) (by rw [h4 .dbi (by decide)])
  exact hlaw

theorem drainLaw_rest : KeptByRest [.bsd, .dbi] (fun _ => True) DrainLaw where
  frame {s t} hsame h := h.congr (hsame .bsd (by decide)) (by rw [hsame .dbi (by decide)]) (by rw [hsame .dbi (by decide)])
  powerOn _ _ _ _ := NoBill.drainLaw ⟨rfl, nofun⟩
  restartCold _ _ _ _ := drainLaw_shared.restartPrc (drainLaw_shared.restartSlc (NoBill.drainLaw ⟨rfl, nofun⟩))
  restartWarm b s _ _ := by
    refine (noBill_shared.restartPrc (noBill_shared.restartSlc (noBill_shared.warmBlocks b ⟨rfl, nofun⟩
      (fun _ hu => hu) (fun _ hu => hu) fun u hu => ?_))).drainLaw
    unfold restartBsdWarm; split
    · exact hu
    · exact endDrain_noBill _ _ hu.1
    · exact endDrain_noBill _ _ hu.1
  voyageStart _ _ h := voyageStart_drainLaw h
  takeClaim := .inr fun n k _ _ h => drainLaw_shared.takeClaim n k h
    (fun m u hu => hu.congr (offerRelease_touches m u .bsd (by decide)) (offerRelease_drainFrames m u).1
      (offerRelease_drainFrames m u).2)
    fun k u hu => hu.congr rfl rfl rfl
  takeDrainRequest := .inr fun x n s _ h => by
    unfold takeDrainRequest; split
    · exact requestDrain_drainLaw _ h
    · exact h
  takeQuery := .inr fun x s _ h => by
    unfold takeQuery offerReport; split
    · split
      · exact h
      · split <;> exact h.congr rfl rfl rfl
    · exact h
  receiveError := .inr fun c s _ h => by cases c <;> exact h.congr rfl rfl rfl
  startFrame := .inr fun s _ h => h.congr (startFrame_touches s .bsd (by decide)) (startFrame_drainFrames s).1
    (startFrame_drainFrames s).2
  loseFrame := .inr fun _ _ h => loseFrame_drainLaw h
  loseLine := .inr fun s _ h => by
    unfold loseLine; split
    · exact (loseFrame_drainLaw h).congr rfl rfl rfl
    · exact h
  sending := .inr fun q s _ h _ => takeSending_drainLaw q (h.congr rfl rfl rfl)
  attach := .inr fun k home v _ _ h => drainLaw_shared.attach k home v h fun i partner grant u hu _ _ => by
    rw [admitInto_eq]
    exact hu.congr (queueClaim_touches k _ .bsd (by decide)) (queueClaim_drainFrames k _).1 (queueClaim_drainFrames k _).2

/-! ## The laws together -/

/-- Settles O57: the store with the slots that wait for it, the transmit queues with their deferrals, the directive queues,
and the drain with its frames are each kept by every part of every command. -/
theorem stepKeepsThePlacesAndTheDrain : Obligations.StepKeepsThePlacesAndTheDrain := by
  refine ⟨?places, (drainLaw_shared.parts drainLaw_rest).step_alone⟩
  rintro s t ⟨⟨hstore, hclass1, hreports, hradio, hterminal⟩, ⟨hc, hl, hb, hbeacon, hbill, hend, hr⟩, hclosing⟩ hstep
  have hs : StoreLaw t := (storeLaw_shared.parts storeLaw_rest).step_alone rfl s t ⟨hstore, hclosing⟩ hstep
  have hq : t.dbi.Bounded := (bounded_shared.parts bounded_rest).step_alone rfl s t
    ⟨hclass1, hreports, hc, hl, hb, hbeacon, hbill, hend, hr⟩ hstep
  have hd : DirectivePlaces t := (directivePlaces_shared.parts directivePlaces_rest).step_alone rfl s t ⟨hradio, hterminal⟩ hstep
  exact ⟨⟨hs.1, hq.class1Places, hq.reportPlaces, hd.1, hd.2⟩,
    ⟨hq.class1, hq.link, hq.linkBeside, hq.beacon, hq.bill, hq.drainEnd, hq.reports⟩, hs.2⟩

end Sys2Proof.Machine
end

section
/-! The slots of the subscriber table, followed through the operations: which stay open, which wait, and what becomes of an
entry that stays (R5, R40). -/

-- One theorem after another: all at once take more threads than the check's memory holds.
set_option Elab.async false

namespace Sys2Proof.Machine

/-! ## The shape of the table -/

/-- The same slots are open and the same wait, in the same orders. -/
structure SameShape (s t : State) : Prop where
  size    : t.sub.slots.length = s.sub.slots.length
  attach  : t.sub.attachOrder = s.sub.attachOrder
  closing : t.sub.closingOrder = s.sub.closingOrder
  opens   : ∀ i, (t.slot i).isOpen = (s.slot i).isOpen
  waits   : ∀ i, (t.slot i).isClosing = (s.slot i).isClosing

theorem SameShape.of_sub {s t : State} (h : t.sub = s.sub) : SameShape s t where
  size := by rw [h]
  attach := by rw [h]
  closing := by rw [h]
  opens i := by rw [State.slot_congr (congrArg Sub.slots h)]
  waits i := by rw [State.slot_congr (congrArg Sub.slots h)]

theorem SameShape.trans {s t u : State} (h : SameShape s t) (h' : SameShape t u) : SameShape s u where
  size := h'.size.trans h.size
  attach := h'.attach.trans h.attach
  closing := h'.closing.trans h.closing
  opens i := (h'.opens i).trans (h.opens i)
  waits i := (h'.waits i).trans (h.waits i)

theorem OrdersLaw.of_sameShape {s t : State} (hlaw : OrdersLaw s) (h : SameShape s t) : OrdersLaw t := by
  obtain ⟨hsize, hattach, hclosing, hopen, hwait⟩ := hlaw
  refine ⟨h.size.trans hsize, h.attach ▸ hattach, h.closing ▸ hclosing, fun i => ?_, fun i => ?_⟩
  · rw [h.attach, h.opens]; exact hopen i
  · rw [h.closing, h.waits]; exact hwait i

theorem OrdersLaw.of_sub {s t : State} (h : OrdersLaw s) (hsub : t.sub = s.sub) : OrdersLaw t :=
  h.of_sameShape (.of_sub hsub)

/-- An open slot written with an entry stays open. -/
theorem sameShape_setSlot_opened {s : State} {i : Nat} {e : Entry} (h : s.slot i = .opened e) (e' : Entry) :
    SameShape s (s.setSlot i (.opened e')) where
  size := by simp
  attach := rfl
  closing := rfl
  opens j := by
    rw [State.slot_setSlot]; split
    · next hij => rw [← hij.1, h]; rfl
    · rfl
  waits j := by
    rw [State.slot_setSlot]; split
    · next hij => rw [← hij.1, h]; rfl
    · rfl

theorem updateEntry_sameShape (i : Nat) (f : Entry → Entry) {s u : State} (h : SameShape s u) :
    SameShape s (u.updateEntry i f) := by
  unfold State.updateEntry; split
  · next e he => exact h.trans (sameShape_setSlot_opened he _)
  · exact h

theorem rateSlot_sameShape (final quiet : Bool) (zone link i : Nat) (s : State) :
    SameShape s (rateSlot final quiet zone link i s) := by
  unfold rateSlot; split
  · next e he =>
    dsimp only
    split
    · exact (sameShape_setSlot_opened he _).trans (.of_sub rfl)
    · exact sameShape_setSlot_opened he _
  · exact .of_sub rfl

theorem offerInterval_sameShape (cause : Cause) (i : Nat) (s : State) : SameShape s (offerInterval cause i s) := by
  unfold offerInterval; split
  · next e he =>
    split
    · split
      · exact SameShape.trans (t := storeRecord _ s) (.of_sub rfl) (sameShape_setSlot_opened (s := storeRecord _ s) he _)
      · split
        · exact sameShape_setSlot_opened he _
        · exact .of_sub rfl
    · exact sameShape_setSlot_opened he _
  · exact .of_sub rfl

theorem forgetClaim_sameShape (k : Nat) {s u : State} (h : SameShape s u) : SameShape s (forgetClaim k u) := by
  have h1 : SameShape s { u with hov := { u.hov with pendingClaims := u.hov.pendingClaims.erase k } } :=
    h.trans (.of_sub rfl)
  unfold forgetClaim; dsimp only; split
  · exact h1
  · exact updateEntry_sameShape _ _ h1

theorem mergeInto_sameShape (i : Nat) (m : ReleaseMsg) (s : State) : SameShape s (mergeInto i m s) := by
  unfold mergeInto; split
  · next e he =>
    dsimp only
    split
    · exact (sameShape_setSlot_opened he _).trans (.of_sub rfl)
    · exact sameShape_setSlot_opened he _
  · exact .of_sub rfl

theorem unbar_sameShape (i : Nat) (s : State) : SameShape s (unbar i s) := by
  unfold unbar; split
  · next e he =>
    split
    · exact (sameShape_setSlot_opened he _).trans (.of_sub rfl)
    · exact .of_sub rfl
  · exact .of_sub rfl

theorem slot_map_zeroK {s t : State} (h : t.sub.slots = s.sub.slots.map Slot.zeroK) (i : Nat) :
    t.slot i = (s.slot i).zeroK := by
  rw [State.slot, State.slot, h, List.getD_eq_getElem?_getD, List.getD_eq_getElem?_getD, List.getElem?_map]
  cases s.sub.slots[i]? <;> rfl

theorem sameShape_zeroK {s t : State} (h : t.sub = { s.sub with slots := s.sub.slots.map Slot.zeroK }) : SameShape s t where
  size := by rw [h]; simp
  attach := by rw [h]
  closing := by rw [h]
  opens i := by rw [slot_map_zeroK (congrArg Sub.slots h) i]; cases s.slot i <;> rfl
  waits i := by rw [slot_map_zeroK (congrArg Sub.slots h) i]; cases s.slot i <;> rfl

theorem offerRelease_sameShape (m : ReleaseMsg) (s : State) : SameShape s (offerRelease m s) := by
  rcases offerRelease_cases m s with ⟨-, he⟩ | ⟨-, he⟩ | ⟨-, he⟩ | ⟨k, q, -, he⟩ <;> rw [he]
  · exact .of_sub rfl
  · exact .of_sub rfl
  · exact .of_sub rfl
  · exact forgetClaim_sameShape k (.of_sub rfl)

theorem queueClaim_sameShape (k : Nat) (s : State) : SameShape s (queueClaim k s) := by
  unfold queueClaim offerClaim; split
  · exact .of_sub rfl
  · split
    · exact .of_sub rfl
    · split
      · exact .of_sub rfl
      · exact forgetClaim_sameShape k (.of_sub rfl)

/-! ## The law of the orders (R5) -/

theorem finishClose_length (cause : Cause) (quiet : Bool) {i : Nat} {e : Entry} {s : State} (he : s.slot i = .opened e) :
    (finishClose cause quiet i s).sub.slots.length = s.sub.slots.length := by
  obtain ⟨u, hu, hsub, -⟩ := finishClose_before_offer (cause := cause) (quiet := quiet) he
  rw [hu]
  split
  · rcases offerFinal_cases (s.buildRecord cause e) i u with ⟨-, ho⟩ | ⟨-, ho⟩ <;> rw [ho] <;> simp [hsub]
  · simp [hsub]

/-- The end of a close takes the slot out of the attach order and frees it, or lets it wait. -/
theorem finishClose_ordersLaw (cause : Cause) (quiet : Bool) (i : Nat) {s : State} (h : OrdersLaw s) :
    OrdersLaw (finishClose cause quiet i s) := by
  by_cases hopened : ∃ e, s.slot i = .opened e
  · obtain ⟨e, he⟩ := hopened
    obtain ⟨hsize, hattach, hclosing, hopen, hwait⟩ := h
    obtain ⟨hclosed, hothers, hattached, -⟩ := finishClose_orders cause quiet he
    have hlength := finishClose_length cause quiet he
    have hnotWaiting : i ∉ s.sub.closingOrder := fun hi => by
      have := (hwait i).1 hi
      rw [he] at this
      simp [Slot.isClosing] at this
    have hopens : ∀ j, j ∈ (finishClose cause quiet i s).sub.attachOrder ↔
        ((finishClose cause quiet i s).slot j).isOpen = true := fun j => by
      rw [hattached, hattach.mem_erase_iff]
      by_cases hj : j = i
      · subst hj; simp [hclosed]
      · rw [hothers j hj, ← hopen j]; simp [hj]
    have hfreed : (finishClose cause quiet i s).slot i = .free →
        (finishClose cause quiet i s).sub.closingOrder = s.sub.closingOrder →
        OrdersLaw (finishClose cause quiet i s) := fun hslot horder => by
      refine ⟨hlength.trans hsize, hattached ▸ hattach.erase i, horder ▸ hclosing, hopens, fun j => ?_⟩
      rw [horder]
      by_cases hj : j = i
      · subst hj; simp [hslot, hnotWaiting, Slot.isClosing]
      · rw [hothers j hj, ← hwait j]
    by_cases hcontent : e.hasContent = true
    · by_cases htakes : s.takesFinal = true
      · obtain ⟨hslot, -, horder⟩ := finishClose_of_taken (cause := cause) (quiet := quiet) he hcontent htakes
        exact hfreed hslot horder
      · obtain ⟨hslot, -, horder⟩ :=
          finishClose_of_refused (cause := cause) (quiet := quiet) he hcontent (Bool.eq_false_iff.2 htakes)
        refine ⟨hlength.trans hsize, hattached ▸ hattach.erase i, ?_, hopens, fun j => ?_⟩
        · rw [horder, ← List.concat_eq_append]
          exact hclosing.concat hnotWaiting
        · rw [horder, List.mem_append, List.mem_singleton]
          by_cases hj : j = i
          · subst hj; simp [hslot, Slot.isClosing]
          · rw [hothers j hj, ← hwait j]; simp [hj]
    · obtain ⟨hslot, -, horder⟩ :=
        finishClose_of_no_content (cause := cause) (quiet := quiet) he (Bool.eq_false_iff.2 hcontent)
      exact hfreed hslot horder
  · have : finishClose cause quiet i s = s := by
      unfold finishClose; split
      · next e he => exact absurd ⟨e, he⟩ hopened
      · rfl
    rwa [this]

theorem ordersLaw_shared : KeptByShared OrdersLaw where
  frame ht h := h.of_sub (ht .sub (by decide))
  malformed h := h.of_sub rfl
  queueRadio _ _ h := h.of_sub rfl
  queueTerminal _ _ h := h.of_sub rfl
  restartSilence _ _ h := h.of_sub rfl
  terminalPin _ _ h := h.of_sub rfl
  announce a s h := h.of_sub (announce_touches a s .sub (by decide))
  offerBeacon {s} h := h.of_sub (offerBeacon_touches s .sub (by decide))
  rateSlot _ _ _ _ _ _ h := h.of_sameShape (rateSlot_sameShape _ _ _ _ _ _)
  offerInterval _ _ _ h := h.of_sameShape (offerInterval_sameShape _ _ _)
  finishClose cause quiet i _ h := finishClose_ordersLaw cause quiet i h

/-- A record that moves into the store frees its slot, which leaves the closing order. -/
theorem moveClosing_ordersLaw (i : Nat) {s : State} (h : OrdersLaw s) (hi : i ∈ s.sub.closingOrder) :
    OrdersLaw (moveClosing i s) := by
  obtain ⟨hsize, hattach, hclosing, hopen, hwait⟩ := h
  obtain ⟨r, hr⟩ : ∃ r, s.slot i = .closing r := by
    have hw := (hwait i).1 hi
    cases hx : s.slot i <;> simp_all [Slot.isClosing]
  have hlt := s.lt_of_slot i (by simp [hr])
  rw [moveClosing_of_closing hr]
  have hslot : ∀ j, (storeRecord r (State.setSlot
      { s with sub := { s.sub with closingOrder := s.sub.closingOrder.erase i } } i .free)).slot j =
      if i = j ∧ i < s.sub.slots.length then .free else s.slot j := fun j => State.slot_setSlot i j .free _
  refine ⟨by simpa using hsize, hattach, hclosing.erase i, fun j => ?_, fun j => ?_⟩
  · rw [hslot]; split
    · next hij => rw [← hij.1]; simpa [hr, Slot.isOpen] using hopen i
    · exact hopen j
  · rw [hslot, show (storeRecord r (State.setSlot
      { s with sub := { s.sub with closingOrder := s.sub.closingOrder.erase i } } i .free)).sub.closingOrder =
      s.sub.closingOrder.erase i from rfl, hclosing.mem_erase_iff]
    split
    · next hij => simp [hij.1, Slot.isClosing]
    · next hij => rw [hwait j]; simp [show j ≠ i from fun hji => hij ⟨hji.symm, hlt⟩]

theorem moveClosing_closingOrder (i : Nat) (s : State) :
    (moveClosing i s).sub.closingOrder = s.sub.closingOrder.erase i := by
  unfold moveClosing; dsimp only; split
  · simp
  · rfl

theorem moveWhileRoom_ordersLaw (l : List Nat) {s : State} (h : OrdersLaw s) (hl : s.sub.closingOrder = l) :
    OrdersLaw (moveWhileRoom l s) := by
  induction l generalizing s with
  | nil => exact h
  | cons i rest ih =>
    unfold moveWhileRoom; split
    · exact ih (moveClosing_ordersLaw i h (by simp [hl])) (by rw [moveClosing_closingOrder, hl, List.erase_cons_head])
    · exact h

theorem billSent_ordersLaw (b : Stored) {s : State} (h : OrdersLaw s) : OrdersLaw (billSent b s) := by
  rw [billSent_eq]
  exact (moveWhileRoom_ordersLaw _ (h.of_sub (t := takeOutBill b s) rfl) rfl).of_sub
    (continueDrain_touches _ .sub (by decide))

theorem takeSending_ordersLaw (q : TxQueue) {s : State} (h : OrdersLaw s) : OrdersLaw (takeSending q s) := by
  cases q with
  | class1 =>
    simp only [takeSending, class1Sent]; split
    · exact h
    · split
      · exact h.of_sameShape (forgetClaim_sameShape _ (.of_sub rfl))
      · exact h.of_sub rfl
  | link => exact h.of_sub rfl
  | beacon => exact h.of_sub rfl
  | bill =>
    simp only [takeSending]; split
    · exact h
    · exact billSent_ordersLaw _ (h.of_sub rfl)
  | drainEnd =>
    simp only [takeSending]; split
    · exact h
    · exact (h.of_sub rfl).of_sub (drainEndSent_touches _ .sub (by decide))
  | report => exact h.of_sub rfl

/-- A FREE slot that takes a new entry joins the attach order. -/
theorem placeEntry_ordersLaw (i key partner : Nat) (grant : Services) {s : State} (h : OrdersLaw s)
    (hfree : s.firstFree = some i) : OrdersLaw (placeEntry i key partner grant s) := by
  obtain ⟨hsize, hattach, hclosing, hopen, hwait⟩ := h
  obtain ⟨hlt, hslot, -⟩ := State.firstFree_some hfree
  have hnotOpen : i ∉ s.sub.attachOrder := fun hi => by simpa [hslot, Slot.isOpen] using (hopen i).1 hi
  have hnotWaiting : i ∉ s.sub.closingOrder := fun hi => by simpa [hslot, Slot.isClosing] using (hwait i).1 hi
  have hread : ∀ j, (placeEntry i key partner grant s).slot j =
      if i = j ∧ i < s.sub.slots.length then .opened (s.newEntry key partner grant) else s.slot j :=
    fun j => State.slot_setSlot i j _ s
  refine ⟨by simpa [placeEntry] using hsize, ?_, hclosing, fun j => ?_, fun j => ?_⟩
  · rw [placeEntry, ← List.concat_eq_append]
    exact hattach.concat hnotOpen
  · rw [hread, placeEntry, List.mem_append, List.mem_singleton]
    split
    · next hij => simp [hij.1, Slot.isOpen]
    · next hij => rw [hopen j]; simp [show j ≠ i from fun hji => hij ⟨hji.symm, hlt⟩]
  · rw [hread, show (placeEntry i key partner grant s).sub.closingOrder = s.sub.closingOrder from rfl]
    split
    · next hij => simp [← hij.1, hnotWaiting, Slot.isClosing]
    · exact hwait j

theorem admitInto_ordersLaw (i key partner : Nat) (grant : Services) {s : State} (h : OrdersLaw s)
    (hfree : s.firstFree = some i) : OrdersLaw (admitInto i key partner grant s) := by
  rw [admitInto_eq]
  exact OrdersLaw.of_sameShape (s := queueRadio _ _) ((placeEntry_ordersLaw i key partner grant h hfree).of_sub rfl)
    (queueClaim_sameShape key _)

theorem unbarAll_sameShape (l : List Nat) (s : State) : SameShape s (l.foldl (fun t i => unbar i t) s) :=
  List.foldlRecOn (motive := SameShape s) l (fun t i => unbar i t) (.of_sub rfl) fun _ ht _ _ =>
    ht.trans (unbar_sameShape _ _)

theorem voyageStart_ordersLaw {s : State} (h : OrdersLaw s) : OrdersLaw (voyageStart s) := by
  unfold voyageStart
  extract_lets s1 _ s2 _ s3 s4
  have h3 : OrdersLaw s3 := (ordersLaw_shared.ratingEvent _ _ _ h).of_sameShape (s := s1) (sameShape_zeroK rfl)
  exact (h3.of_sameShape (unbarAll_sameShape _ s3)).of_sub rfl

theorem reset_ordersLaw {s : State} (h : s.sub = .reset) : OrdersLaw s := by
  have hfree : ∀ i, s.slot i = .free := fun i => by
    rw [State.slot, h]
    simp [Sub.reset, List.getD_eq_getElem?_getD, List.getElem?_replicate]
    split <;> rfl
  rw [OrdersLaw, h]
  exact ⟨rfl, List.nodup_nil, List.nodup_nil, fun i => by simp [hfree, Sub.reset, Slot.isOpen],
    fun i => by simp [hfree, Sub.reset, Slot.isClosing]⟩

/-- The blocks' steps before shore link control's at a cold restart leave the subscriber table at its reset values. -/
theorem coldBlocks_sub (b : Board) (s : State) : (coldBlocks b s).sub = .reset := rfl

theorem ordersLaw_rest : KeptByRest [.sub] (fun _ => True) OrdersLaw where
  frame hsame h := h.of_sub (hsame .sub (by decide))
  powerOn _ _ _ _ := reset_ordersLaw rfl
  restartCold _ _ _ _ := ordersLaw_shared.restartPrc (ordersLaw_shared.restartSlc (reset_ordersLaw rfl))
  restartWarm b _ _ h := ordersLaw_shared.restartPrc (ordersLaw_shared.restartSlc
    (ordersLaw_shared.warmBlocks b (h.of_sub rfl) (fun _ hu => hu) (fun _ hu => hu.of_sub rfl)
      fun u hu => hu.of_sub (restartBsdWarm_touches u .sub (by decide))))
  voyageStart _ _ h := voyageStart_ordersLaw h
  takeClaim := .inr fun n k _ _ h => ordersLaw_shared.takeClaim n k h
    (fun m u hu => hu.of_sameShape (offerRelease_sameShape m u)) fun _ _ hu => hu.of_sub rfl
  takeRelease := .inr fun m s _ h => takeRelease_keeps m h (fun i => h.of_sameShape (mergeInto_sameShape i m s))
    (h.of_sub rfl)
  sending := .inr fun q _ _ h _ => takeSending_ordersLaw q (h.of_sub rfl)
  attach := .inr fun k home v _ _ h => ordersLaw_shared.attach k home v h fun i partner grant _ hu hfree _ =>
    admitInto_ordersLaw i k partner grant hu hfree
  usage := .inr fun i data voice s _ h => h.of_sameShape (updateEntry_sameShape i _ (.of_sub rfl))
  unknownUsage := .inr fun _ _ _ h => h

/-- The parts that run before others keep a law that the shared operations keep. -/
theorem KeptByShared.before {P : State → Prop} (hP : KeptByShared P) (hradio : ∀ s c, P s → P { s with rch := c })
    (hterminal : ∀ s c, P s → P { s with tch := c })
    (hsending : ∀ q s, P s → P (takeSending q { s with dbi := { s.dbi with onLine := none } })) : KeptBefore P where
  heardFrom n m _ h := hP.keptByHearing.heardFrom n m h
  endWindow n s h := hP.beside (endWindow_touches n s) h
  radio := hradio
  terminal := hterminal
  sending := hsending

theorem ordersLaw_before : KeptBefore OrdersLaw :=
  ordersLaw_shared.before (fun _ _ h => h) (fun _ _ h => h) fun q _ h => takeSending_ordersLaw q (h.of_sub rfl)

theorem ordersLaw_step : ∀ s t : State, OrdersLaw s → step s = .next t → OrdersLaw t :=
  (ordersLaw_shared.parts ordersLaw_rest).step_alone

end Sys2Proof.Machine
end

section
/-! What becomes of the entries that stay open, and the laws of the keys and of the cap (R5, R40). -/

-- One theorem after another: all at once take more threads than the check's memory holds.
set_option Elab.async false

namespace Sys2Proof.Machine

/-! ## Entries and their descendants -/

/-- The key, the partner row and the own-claim flag are the same. -/
structure Entry.SameHolder (e e' : Entry) : Prop where
  key     : e'.key = e.key
  partner : e'.partner = e.partner
  claim   : e'.claimPending = e.claimPending

/-- What ratings and new intervals do to an entry: its holder stays, and the law of the cap. -/
structure Entry.Aged (e e' : Entry) : Prop extends Entry.SameHolder e e' where
  cap : e.CapLaw → e'.CapLaw

theorem Entry.SameHolder.refl (e : Entry) : e.SameHolder e := ⟨rfl, rfl, rfl⟩

theorem Entry.Aged.refl (e : Entry) : e.Aged e := ⟨.refl e, id⟩

/-- Every open slot of `t` was open in `s`, its entry related to the one of then. -/
def Descends (R : Entry → Entry → Prop) (s t : State) : Prop :=
  ∀ i e', t.slot i = .opened e' → ∃ e, s.slot i = .opened e ∧ R e e'

section
variable {R : Entry → Entry → Prop} {s t u : State}

theorem Descends.refl (hR : ∀ e, R e e) (s : State) : Descends R s s := fun _ e he => ⟨e, he, hR e⟩

theorem Descends.mono {R' : Entry → Entry → Prop} (h : Descends R s t) (hR : ∀ {e e'}, R e e' → R' e e') :
    Descends R' s t := fun i e' he' =>
  have ⟨e, he, hee⟩ := h i e' he'
  ⟨e, he, hR hee⟩

theorem Descends.of_slots (h : Descends R s t) (hu : u.sub.slots = t.sub.slots) : Descends R s u :=
  fun i e' he' => h i e' ((State.slot_congr hu i).symm.trans he')

/-- A slot written with an entry that follows the one it held. -/
theorem Descends.setSlot_opened (h : Descends R s t) {i : Nat} {e e' : Entry} (he : t.slot i = .opened e)
    (hR : ∀ {e0}, R e0 e → R e0 e') : Descends R s (t.setSlot i (.opened e')) := fun j x hx => by
  rw [State.slot_setSlot] at hx
  split at hx
  · next hij =>
    obtain ⟨e0, he0, hr⟩ := h i e he
    cases hx
    exact ⟨e0, hij.1 ▸ he0, hR hr⟩
  · exact h j x hx

/-- A slot that opens nothing. -/
theorem Descends.setSlot_shut (h : Descends R s t) (i : Nat) {x : Slot} (hx : x.isOpen = false) :
    Descends R s (t.setSlot i x) := fun j e he => by
  rw [State.slot_setSlot] at he
  split at he
  · rw [he] at hx
    simp [Slot.isOpen] at hx
  · exact h j e he

theorem Descends.updateEntry (h : Descends R s t) (i : Nat) (f : Entry → Entry) (hR : ∀ {e0 e}, R e0 e → R e0 (f e)) :
    Descends R s (t.updateEntry i f) := by
  unfold State.updateEntry; split
  · next e he => exact h.setSlot_opened he hR
  · exact h

end

/-- What holds of every entry of the table, said by slot. -/
theorem State.forall_opened_iff {s : State} {p : Entry → Prop} :
    (∀ e, Slot.opened e ∈ s.sub.slots → p e) ↔ ∀ i e, s.slot i = .opened e → p e :=
  ⟨fun h i e he => h e (State.mem_slots_iff.2 ⟨i, he⟩), fun h _ hm =>
    have ⟨i, hi⟩ := State.mem_slots_iff.1 hm
    h i _ hi⟩

/-! ## Ratings and the law of the cap (R39, R40) -/

theorem capReached_iff {cap k : Nat} : capReached cap k = true ↔ cap ≠ 0 ∧ k = cap := by
  simp [capReached]

/-- An entry's state and K after a charge: BARRED as R40 says, where it was so before. -/
theorem applyCharge_capLaw (c : Nat) {e : Entry} (h : e.CapLaw) : (e.applyCharge c).CapLaw := by
  obtain ⟨hk, hbarred⟩ := h
  refine ⟨show e.k + min c (ceilingOf e.cap - e.k) ≤ ceilingOf e.cap by omega, ?_⟩
  simp only [Entry.applyCharge]
  cases hstate : e.state with
  | active =>
    rw [← capReached_iff]
    cases capReached e.cap (e.k + min c (ceilingOf e.cap - e.k)) <;> simp
  | barred =>
    obtain ⟨hcap, hfull⟩ := hbarred.1 hstate
    simp [ceilingOf, hcap, hfull]

theorem rate_aged (final : Bool) (p : Prices) {e0 e : Entry} (h : e0.Aged e) : e0.Aged (e.rate final p) where
  key := h.key
  partner := h.partner
  claim := h.claim
  cap h0 := applyCharge_capLaw _ (h.cap h0)

theorem openInterval_aged (s : State) {e0 e : Entry} (h : e0.Aged e) : e0.Aged (s.openInterval e) :=
  ⟨⟨h.key, h.partner, h.claim⟩, h.cap⟩

theorem mixed_aged {e0 e : Entry} (h : e0.Aged e) : e0.Aged { e with mixed := true } :=
  ⟨⟨h.key, h.partner, h.claim⟩, h.cap⟩

theorem offerFinal_descends {R : Entry → Entry → Prop} (r : Record) (i : Nat) {s t : State} (h : Descends R s t) :
    Descends R s (offerFinal r i t) := by
  rcases offerFinal_cases r i t with ⟨-, he⟩ | ⟨-, he⟩ <;> rw [he]
  · exact (h.of_slots (u := storeRecord r t) rfl).setSlot_shut i rfl
  · exact (h.setSlot_shut i (x := .closing r) rfl).of_slots rfl

/-- The shared operations age the entries that they leave open. -/
theorem aged_shared (s : State) : KeptByShared (Descends Entry.Aged s) where
  frame ht h := h.of_slots (by rw [ht .sub (by decide)])
  malformed h := h
  queueRadio _ _ h := h
  queueTerminal _ _ h := h
  restartSilence _ _ h := h
  terminalPin _ _ h := h
  announce a t h := h.of_slots (by rw [announce_touches a t .sub (by decide)])
  offerBeacon {t} h := h.of_slots (by rw [offerBeacon_touches t .sub (by decide)])
  rateSlot final quiet zone link i t h := by
    unfold rateSlot; split
    · next e he =>
      have h' : Descends Entry.Aged s (t.setSlot i (.opened (e.rate final (t.prices zone link e.partner)))) :=
        h.setSlot_opened he fun hr => rate_aged _ _ hr
      dsimp only
      split
      · exact h'
      · exact h'
    · exact h
  offerInterval cause i t h := by
    unfold offerInterval; split
    · next e he =>
      split
      · split
        · exact (h.of_slots (u := storeRecord _ t) rfl).setSlot_opened he fun hr => openInterval_aged _ hr
        · split
          · exact h.setSlot_opened he fun hr => mixed_aged hr
          · exact h
      · exact h.setSlot_opened he fun hr => openInterval_aged _ hr
    · exact h
  finishClose cause quiet i t h := by
    by_cases hopen : ∃ e, t.slot i = .opened e
    · obtain ⟨e, he⟩ := hopen
      obtain ⟨u, hu, hsub, -⟩ := finishClose_before_offer (cause := cause) (quiet := quiet) he
      have hdesc : Descends Entry.Aged s u := h.of_slots (by rw [hsub])
      rw [hu]
      split
      · exact offerFinal_descends _ _ hdesc
      · exact hdesc.setSlot_shut i rfl
    · unfold finishClose; split
      · next e he => exact absurd ⟨e, he⟩ hopen
      · exact h

theorem Descends.aged_refl (s : State) : Descends Entry.Aged s s := .refl Entry.Aged.refl s

/-! ## What the other parts do to the entries -/

/-- The key, the partner row and the law of the cap stay; the own-claim flag may fall. -/
structure Entry.Unclaimed (e e' : Entry) : Prop where
  key     : e'.key = e.key
  partner : e'.partner = e.partner
  cap     : e.CapLaw → e'.CapLaw

theorem Entry.Aged.unclaimed {e e' : Entry} (h : e.Aged e') : e.Unclaimed e' := ⟨h.key, h.partner, h.cap⟩

theorem Entry.Aged.trans_unclaimed {e e' e'' : Entry} (h' : e'.Aged e'') (h : e.Unclaimed e') : e.Unclaimed e'' :=
  ⟨h'.key.trans h.key, h'.partner.trans h.partner, fun h0 => h'.cap (h.cap h0)⟩

theorem Entry.Unclaimed.refl (e : Entry) : e.Unclaimed e := ⟨rfl, rfl, id⟩

/-- The shared operations keep the entries' holders and the law of the cap, whatever their flags were. -/
theorem unclaimed_shared (s : State) : KeptByShared (Descends Entry.Unclaimed s) :=
  .of_relation aged_shared Descends.aged_refl fun h h0 i e'' he'' =>
    have ⟨e', he', hr'⟩ := h i e'' he''
    have ⟨e, he, hr⟩ := h0 i e' he'
    ⟨e, he, hr'.trans_unclaimed hr⟩

section
variable {s t : State}

theorem forgetClaim_descends (k : Nat) (h : Descends Entry.Unclaimed s t) :
    Descends Entry.Unclaimed s (forgetClaim k t) := by
  have h1 : Descends Entry.Unclaimed s { t with hov := { t.hov with pendingClaims := t.hov.pendingClaims.erase k } } := h
  unfold forgetClaim; dsimp only; split
  · exact h1
  · exact h1.updateEntry _ _ fun hr => ⟨hr.key, hr.partner, hr.cap⟩

theorem offerRelease_descends (m : ReleaseMsg) (h : Descends Entry.Unclaimed s t) :
    Descends Entry.Unclaimed s (offerRelease m t) := by
  rcases offerRelease_cases m t with ⟨-, he⟩ | ⟨-, he⟩ | ⟨-, he⟩ | ⟨k, q, -, he⟩ <;> rw [he]
  · exact h
  · exact h
  · exact h
  · exact forgetClaim_descends k h

theorem queueClaim_descends (k : Nat) (h : Descends Entry.Unclaimed s t) :
    Descends Entry.Unclaimed s (queueClaim k t) := by
  unfold queueClaim offerClaim; split
  · exact h
  · split
    · exact h
    · split
      · exact h
      · exact forgetClaim_descends k h

/-- A RELEASE merged keeps R40's law: K within the ceiling, BARRED where it reaches a cap (R54). -/
theorem merge_capLaw (charge : Nat) (reached : Bool) {e : Entry} (h : e.CapLaw) : (e.merge charge reached).CapLaw := by
  obtain ⟨hk, hbarred⟩ := h
  simp only [Entry.CapLaw, Entry.merge]
  generalize hkeq : (if (reached && e.cap != 0) = true then e.cap else min (e.k + charge) (ceilingOf e.cap)) = k
  have hle : k ≤ ceilingOf e.cap := by
    rw [← hkeq]; split
    · next hr =>
      rw [Bool.and_eq_true, bne_iff_ne] at hr
      exact (if_neg hr.2).ge
    · exact Nat.min_le_right _ _
  refine ⟨hle, ?_⟩
  cases hstate : e.state with
  | active =>
    rw [← capReached_iff]
    cases capReached e.cap k <;> simp
  | barred =>
    obtain ⟨hcap, hfull⟩ := hbarred.1 hstate
    have hk : k = e.cap := by
      rw [← hkeq, hfull]; split
      · rfl
      · simp [ceilingOf, hcap]
    simp [hcap, hk]

theorem mergeInto_descends (i : Nat) (m : ReleaseMsg) (h : Descends Entry.Aged s t) :
    Descends Entry.Aged s (mergeInto i m t) := by
  unfold mergeInto; split
  · next e he =>
    have h' : Descends Entry.Aged s (t.setSlot i (.opened (e.merge m.charge m.capReached))) :=
      h.setSlot_opened he fun hr => ⟨⟨hr.key, hr.partner, hr.claim⟩, fun h0 => merge_capLaw _ _ (hr.cap h0)⟩
    dsimp only
    split
    · exact h'
    · exact h'
  · exact h

theorem usage_aged (data voice : Nat) {e0 e : Entry} (h : e0.Aged e) : e0.Aged (e.takeUsage data voice) := by
  unfold Entry.takeUsage; split
  · exact ⟨⟨h.key, h.partner, h.claim⟩, h.cap⟩
  · exact ⟨⟨h.key, h.partner, h.claim⟩, h.cap⟩

theorem unbar_descends (i : Nat) (h : Descends Entry.SameHolder s t) : Descends Entry.SameHolder s (unbar i t) := by
  unfold unbar; split
  · next e he =>
    split
    · exact Descends.of_slots (h.setSlot_opened (e' := { e with state := .active }) he
        fun hr => ⟨hr.key, hr.partner, hr.claim⟩) rfl
    · exact h
  · exact h

theorem zeroK_eq_opened {x : Slot} {e' : Entry} (h : x.zeroK = .opened e') :
    ∃ e, x = .opened e ∧ e' = { e with k := 0 } := by
  cases x with
  | opened e =>
    cases h
    exact ⟨e, rfl, rfl⟩
  | free => cases h
  | closing r => cases h

theorem zeroK_descends {u : State} (h : Descends Entry.SameHolder s t)
    (hu : u.sub.slots = t.sub.slots.map Slot.zeroK) : Descends Entry.SameHolder s u := fun i e' he' => by
  rw [slot_map_zeroK hu] at he'
  obtain ⟨e, he, rfl⟩ := zeroK_eq_opened he'
  obtain ⟨e0, he0, hr⟩ := h i e he
  exact ⟨e0, he0, hr.key, hr.partner, hr.claim⟩

/-- A voyage start keeps the holders of the entries. -/
theorem voyageStart_descends (s : State) : Descends Entry.SameHolder s (voyageStart s) := by
  unfold voyageStart
  extract_lets s1 _ s2 _ s3 s4
  have h1 : Descends Entry.SameHolder s s1 := Descends.mono ((aged_shared s).ratingEvent _ _ _ (.aged_refl s))
    fun h => h.toSameHolder
  have h3 : Descends Entry.SameHolder s s3 := zeroK_descends h1 rfl
  exact List.foldlRecOn (motive := Descends Entry.SameHolder s) s3.sub.attachOrder (fun t i => unbar i t) h3
    fun _ ht _ _ => unbar_descends _ ht

theorem moveClosing_descends {R : Entry → Entry → Prop} (i : Nat) (h : Descends R s t) : Descends R s (moveClosing i t) := by
  unfold moveClosing; dsimp only; split
  · exact Descends.of_slots (Descends.setSlot_shut (t := { t with sub := { t.sub with closingOrder := _ } }) h i rfl) rfl
  · exact h

theorem moveWhileRoom_descends {R : Entry → Entry → Prop} (l : List Nat) (h : Descends R s t) :
    Descends R s (moveWhileRoom l t) := by
  induction l generalizing t with
  | nil => exact h
  | cons i rest ih =>
    unfold moveWhileRoom; split
    · exact ih (moveClosing_descends i h)
    · exact h

theorem billSent_descends {R : Entry → Entry → Prop} (b : Stored) (h : Descends R s t) : Descends R s (billSent b t) := by
  rw [billSent_eq]
  exact (moveWhileRoom_descends _ (h.of_slots (u := takeOutBill b t) rfl)).of_slots
    (by rw [continueDrain_touches _ .sub (by decide)]; rfl)

theorem takeSending_descends (q : TxQueue) (h : Descends Entry.Unclaimed s t) :
    Descends Entry.Unclaimed s (takeSending q t) := by
  cases q with
  | class1 =>
    simp only [takeSending, class1Sent]; split
    · exact h
    · split
      · exact forgetClaim_descends _ h
      · exact h
  | link => exact h
  | beacon => exact h
  | bill =>
    simp only [takeSending]; split
    · exact h
    · exact billSent_descends _ h
  | drainEnd =>
    simp only [takeSending]; split
    · exact h
    · exact Descends.of_slots (t := t) h (by rw [drainEndSent_touches _ .sub (by decide)])
  | report => exact h

end

/-- The slot of an admission holds the new entry, the others what they held. -/
theorem placeEntry_slot (i key partner : Nat) (grant : Services) {s : State} (hfree : s.firstFree = some i) (j : Nat) :
    (placeEntry i key partner grant s).slot j =
      if i = j then .opened (s.newEntry key partner grant) else s.slot j := by
  have h : (placeEntry i key partner grant s).slot j =
      if i = j ∧ i < s.sub.slots.length then .opened (s.newEntry key partner grant) else s.slot j :=
    State.slot_setSlot i j _ s
  simpa [(State.firstFree_some hfree).1] using h

/-! ## The law of the keys (R5) -/

theorem keysLaw_iff {s : State} :
    KeysLaw s ↔ ∀ i j e e', s.slot i = .opened e → s.slot j = .opened e' → e.key = e'.key → i = j := by
  rw [KeysLaw, List.Nodup, List.pairwise_filterMap, List.pairwise_iff_getElem]
  constructor
  · intro h i j e e' hi hj hkey
    have hli := s.lt_of_slot i (by simp [hi])
    have hlj := s.lt_of_slot j (by simp [hj])
    rw [s.slot_eq_getElem i hli] at hi
    rw [s.slot_eq_getElem j hlj] at hj
    rcases Nat.lt_trichotomy i j with hlt | heq | hgt
    · exact absurd hkey (h i j hli hlj hlt _ (by rw [hi]; rfl) _ (by rw [hj]; rfl))
    · exact heq
    · exact absurd hkey.symm (h j i hlj hli hgt _ (by rw [hj]; rfl) _ (by rw [hi]; rfl))
  · intro h i j hli hlj hlt k hk k' hk' hkk
    rw [← s.slot_eq_getElem i hli] at hk
    rw [← s.slot_eq_getElem j hlj] at hk'
    cases hi : s.slot i <;> cases hj : s.slot j <;> simp_all [Slot.openKey?]
    exact absurd (h i j _ _ hi hj (hk.trans hk'.symm)) (by omega)

theorem KeysLaw.of_descends {R : Entry → Entry → Prop} {s t : State} (hlaw : KeysLaw s) (h : Descends R s t)
    (hR : ∀ {e e'}, R e e' → e'.key = e.key) : KeysLaw t := by
  rw [keysLaw_iff] at hlaw ⊢
  intro i j e e' hi hj hkey
  obtain ⟨a, ha, hra⟩ := h i e hi
  obtain ⟨b, hb, hrb⟩ := h j e' hj
  exact hlaw i j a b ha hb (by rw [← hR hra, ← hR hrb, hkey])

theorem keysLaw_shared : KeptByShared KeysLaw :=
  .of_relation aged_shared Descends.aged_refl fun h hlaw => hlaw.of_descends h fun hr => hr.key

theorem KeysLaw.unclaimed {s t : State} (hlaw : KeysLaw s) (h : Descends Entry.Unclaimed s t) : KeysLaw t :=
  hlaw.of_descends h fun hr => hr.key

theorem placeEntry_keysLaw (i key partner : Nat) (grant : Services) {s : State} (h : KeysLaw s)
    (hfree : s.firstFree = some i) (hclosed : s.findOpen key = none) : KeysLaw (placeEntry i key partner grant s) := by
  rw [keysLaw_iff] at h ⊢
  rw [State.findOpen_eq_none_iff] at hclosed
  intro a b e e' ha hb hkey
  rw [placeEntry_slot i key partner grant hfree] at ha hb
  split at ha <;> split at hb
  · next h1 h2 => exact h1.symm.trans h2
  · cases ha
    exact absurd hkey.symm (hclosed b e' hb)
  · cases hb
    exact absurd hkey (hclosed a e ha)
  · exact h a b e e' ha hb hkey

theorem Descends.unclaimed_refl (s : State) : Descends Entry.Unclaimed s s := .refl Entry.Unclaimed.refl s

theorem reset_slot {s : State} (h : s.sub = .reset) (i : Nat) : s.slot i = .free := by
  rw [State.slot, h]
  simp [Sub.reset, List.getD_eq_getElem?_getD, List.getElem?_replicate]
  split <;> rfl

/-- A table after a reset opens nothing. -/
theorem reset_descends {R : Entry → Entry → Prop} {s t : State} (h : t.sub = .reset) : Descends R s t :=
  fun i e he => by simp [reset_slot h i] at he

/-- The entries after a power-on, a restart, a voyage start, an ATTACH that admits nothing, and a frame sent. -/
theorem keysLaw_rest : KeptByRest [.sub] (fun _ => True) KeysLaw where
  frame hsame h := by rw [KeysLaw, hsame .sub (by decide)]; exact h
  powerOn _ _ _ h := h.unclaimed (reset_descends rfl)
  restartCold b s _ h := keysLaw_shared.restartPrc (keysLaw_shared.restartSlc (h.unclaimed (reset_descends rfl)))
  restartWarm b _ _ h := keysLaw_shared.restartPrc (keysLaw_shared.restartSlc
    (keysLaw_shared.warmBlocks b h (fun _ hu => hu) (fun _ hu => hu)
      fun u hu => by rw [KeysLaw, restartBsdWarm_touches u .sub (by decide)]; exact hu))
  voyageStart s _ h := h.of_descends (voyageStart_descends s) fun hr => hr.key
  takeClaim := .inr fun n k _ _ h => keysLaw_shared.takeClaim n k h
    (fun m u hu => hu.unclaimed (offerRelease_descends m (.unclaimed_refl u))) fun _ _ hu => hu
  takeRelease := .inr fun m s _ h => takeRelease_keeps m h
    (fun i => h.of_descends (mergeInto_descends i m (.aged_refl s)) fun hr => hr.key) h
  sending := .inr fun q s _ h _ => h.unclaimed (takeSending_descends q (.unclaimed_refl s))
  attach := .inr fun k home v _ _ h => keysLaw_shared.attach k home v h fun i partner grant u hu hfree hok => by
    rw [admitInto_eq]
    have hplaced := placeEntry_keysLaw i k partner grant hu hfree hok.closed
    exact hplaced.unclaimed (queueClaim_descends k ((Descends.unclaimed_refl _).of_slots rfl))
  usage := .inr fun i data voice s _ h =>
    h.of_descends (Descends.updateEntry (.aged_refl s) i _ (usage_aged data voice)) fun hr => hr.key
  unknownUsage := .inr fun _ _ _ h => h

/-! ## The law of the cap (R40) -/

theorem CapLaw.of_descends {R : Entry → Entry → Prop} {s t : State} (hlaw : CapLaw s) (h : Descends R s t)
    (hR : ∀ {e e'}, R e e' → e.CapLaw → e'.CapLaw) : CapLaw t := by
  rw [CapLaw, State.forall_opened_iff] at hlaw ⊢
  intro i e' he'
  obtain ⟨e, he, hr⟩ := h i e' he'
  exact hR hr (hlaw i e he)

theorem capLaw_shared : KeptByShared CapLaw :=
  .of_relation aged_shared Descends.aged_refl fun h hlaw => hlaw.of_descends h fun hr => hr.cap

theorem CapLaw.unclaimed {s t : State} (hlaw : CapLaw s) (h : Descends Entry.Unclaimed s t) : CapLaw t :=
  hlaw.of_descends h fun hr => hr.cap

theorem restoredK_le (cap : Nat) (d : Option Departure) : restoredK cap d ≤ ceilingOf cap := by
  unfold restoredK; split
  · exact Nat.zero_le _
  · split
    · next h =>
      rw [Bool.and_eq_true, bne_iff_ne] at h
      exact (if_neg h.2).ge
    · exact Nat.min_le_right _ _

theorem newEntry_capLaw (s : State) (key partner : Nat) (grant : Services) : (s.newEntry key partner grant).CapLaw := by
  refine ⟨restoredK_le _ _, ?_⟩
  simp only [State.newEntry, State.openInterval]
  rw [← capReached_iff]
  cases capReached (s.partnerRow partner).cap (restoredK (s.partnerRow partner).cap (s.departed? key)) <;> simp

theorem placeEntry_capLaw (i key partner : Nat) (grant : Services) {s : State} (h : CapLaw s)
    (hfree : s.firstFree = some i) : CapLaw (placeEntry i key partner grant s) := by
  rw [CapLaw, State.forall_opened_iff] at h ⊢
  intro j e he
  rw [placeEntry_slot i key partner grant hfree] at he
  split at he
  · cases he
    exact newEntry_capLaw s key partner grant
  · exact h j e he

/-- An entry with K 0 that no cap of 0 lets pass for full: ACTIVE, as R40 has it. -/
def Entry.Fresh (e : Entry) : Prop := e.k = 0 ∧ e.state = .active

theorem Entry.Fresh.capLaw {e : Entry} (h : e.Fresh) : e.CapLaw := by
  obtain ⟨hk, hstate⟩ := h
  refine ⟨by omega, ?_⟩
  rw [hstate, hk]
  constructor
  · nofun
  · rintro ⟨hcap, hzero⟩
    exact absurd hzero.symm hcap

theorem unbar_slot (i j : Nat) {s : State} {e' : Entry} (h : (unbar i s).slot j = .opened e') :
    ∃ e, s.slot j = .opened e ∧ e'.k = e.k ∧ (e.state = .active → e'.state = .active) ∧ (i = j → e'.state = .active) := by
  unfold unbar at h
  split at h
  · next e he =>
    split at h
    · next hbarred =>
      rw [State.slot_queueRadio, State.slot_setSlot] at h
      split at h
      · next hij =>
        cases h
        exact ⟨e, hij.1 ▸ he, rfl, fun _ => rfl, fun _ => rfl⟩
      · next hij =>
        refine ⟨e', h, rfl, id, fun heq => absurd ⟨heq, ?_⟩ hij⟩
        exact s.lt_of_slot i (by simp [he])
    · next hactive =>
      refine ⟨e', h, rfl, id, fun heq => ?_⟩
      subst heq
      rw [he] at h
      cases h
      exact hactive
  · next hclosed => exact ⟨e', h, rfl, id, fun heq => absurd (heq ▸ h) (hclosed e')⟩

/-- Unbarring the slots of a list leaves each ACTIVE, and K as it was. -/
theorem unbarAll_slot (l : List Nat) (j : Nat) {s : State} {e' : Entry}
    (h : (l.foldl (fun t i => unbar i t) s).slot j = .opened e') :
    ∃ e, s.slot j = .opened e ∧ e'.k = e.k ∧ (e.state = .active → e'.state = .active) ∧ (j ∈ l → e'.state = .active) := by
  induction l generalizing s with
  | nil => exact ⟨e', h, rfl, id, nofun⟩
  | cons i l ih =>
    obtain ⟨e1, h1, hk1, hactive1, hin1⟩ := ih h
    obtain ⟨e, h0, hk0, hactive0, hin0⟩ := unbar_slot i j h1
    refine ⟨e, h0, hk1.trans hk0, fun ha => hactive1 (hactive0 ha), fun hj => ?_⟩
    rcases List.mem_cons.1 hj with rfl | hj
    · exact hactive1 (hin0 rfl)
    · exact hin1 hj

/-- A voyage start leaves every entry with K 0 and ACTIVE (R79, R14). -/
theorem voyageStart_fresh {s : State} (horders : OrdersLaw s) {i : Nat} {e' : Entry}
    (h : (voyageStart s).slot i = .opened e') : e'.Fresh := by
  unfold voyageStart at h
  extract_lets s1 _ s2 _ s3 s4 at h
  have horders1 : OrdersLaw s1 := ordersLaw_shared.ratingEvent _ _ _ horders
  obtain ⟨-, -, -, hopen, -⟩ : OrdersLaw s3 := horders1.of_sameShape (sameShape_zeroK rfl)
  obtain ⟨e, he, hk, -, hactive⟩ := unbarAll_slot s3.sub.attachOrder i (s := s3) h
  refine ⟨?_, hactive ((hopen i).2 (by rw [he]; rfl))⟩
  rw [slot_map_zeroK (s := s1) rfl] at he
  obtain ⟨e0, -, rfl⟩ := zeroK_eq_opened he
  exact hk

theorem capLaw_rest : KeptByRest [.sub] OrdersLaw CapLaw where
  frame hsame h := by rw [CapLaw, hsame .sub (by decide)]; exact h
  powerOn _ _ _ h := h.unclaimed (reset_descends rfl)
  restartCold b s _ h := capLaw_shared.restartPrc (capLaw_shared.restartSlc (h.unclaimed (reset_descends rfl)))
  restartWarm b _ _ h := capLaw_shared.restartPrc (capLaw_shared.restartSlc
    (capLaw_shared.warmBlocks b h (fun _ hu => hu) (fun _ hu => hu)
      fun u hu => by rw [CapLaw, restartBsdWarm_touches u .sub (by decide)]; exact hu))
  voyageStart _ horders _ := State.forall_opened_iff.2 fun _ _ he => (voyageStart_fresh horders he).capLaw
  takeClaim := .inr fun n k _ _ h => capLaw_shared.takeClaim n k h
    (fun m u hu => hu.unclaimed (offerRelease_descends m (.unclaimed_refl u))) fun _ _ hu => hu
  takeRelease := .inr fun m s _ h => takeRelease_keeps m h
    (fun i => h.of_descends (mergeInto_descends i m (.aged_refl s)) fun hr => hr.cap) h
  sending := .inr fun q s _ h _ => h.unclaimed (takeSending_descends q (.unclaimed_refl s))
  attach := .inr fun k home v _ _ h => capLaw_shared.attach k home v h fun i partner grant u hu hfree _ => by
    rw [admitInto_eq]
    have hplaced := placeEntry_capLaw i k partner grant hu hfree
    exact hplaced.unclaimed (queueClaim_descends k ((Descends.unclaimed_refl _).of_slots rfl))
  usage := .inr fun i data voice s _ h =>
    h.of_descends (Descends.updateEntry (.aged_refl s) i _ (usage_aged data voice)) fun hr => hr.cap
  unknownUsage := .inr fun _ _ _ h => h

/-- Settles O53: the orders by what each operation does to the shape of the table, the keys and the cap by what becomes of
an entry that stays open; at a voyage start every entry is left with K 0 and ACTIVE. -/
theorem stepKeepsTheTableAndTheCap : Obligations.StepKeepsTheTableAndTheCap := by
  refine ⟨fun s t h hstep => ⟨ordersLaw_step s t h.1 hstep, ?keys⟩, ?cap⟩
  case keys => exact (keysLaw_shared.parts keysLaw_rest).step_alone rfl s t h.2 hstep
  case cap => exact (capLaw_shared.parts capLaw_rest).step ordersLaw_before fun _ _ h => h

end Sys2Proof.Machine
end

section
/-! The departure list: at most 32 keys, none twice, none open (R59, R61). -/

-- One theorem after another: all at once take more threads than the check's memory holds.
set_option Elab.async false

namespace Sys2Proof.Machine

/-! ## Joining the list (R58, R59) -/

/-- The keys after a departure joins: its own, and others of the list. -/
theorem joinDepartures_keys (d : Departure) (l : List Departure) :
    ∃ rest, rest.Sublist (l.filter fun x => x.key != d.key) ∧ rest.length < Config.departurePlaces + (l.length - 32) ∧
      (joinDepartures d l).1 = rest ++ [d] := by
  have hle := List.length_filter_le (fun x : Departure => x.key != d.key) l
  unfold joinDepartures
  dsimp only
  split
  · next hfull =>
    refine ⟨_, List.drop_sublist _ _, ?_, rfl⟩
    simp only [Config.departurePlaces] at hfull ⊢
    rw [List.length_drop]
    omega
  · next hroom => exact ⟨_, .refl _, by simp only [Config.departurePlaces] at hroom ⊢; omega, rfl⟩

theorem DeparturesLaw.of_descends {R : Entry → Entry → Prop} {s t : State} (hlaw : DeparturesLaw s)
    (h : Descends R s t) (hR : ∀ {e e'}, R e e' → e'.key = e.key) (hlist : t.hov.departures.Sublist s.hov.departures) :
    DeparturesLaw t := by
  obtain ⟨hplaces, hnodup, hopen⟩ := hlaw
  refine ⟨hlist.length_le.trans hplaces, hnodup.sublist (hlist.map _), State.forall_opened_iff.2 fun i e' he' hmem => ?_⟩
  obtain ⟨e, he, hr⟩ := h i e' he'
  exact State.forall_opened_iff.1 hopen i e he (hR hr ▸ (hlist.map _).subset hmem)

/-- The end of a close lists the key of the entry closed, which no other entry has. -/
theorem finishClose_departuresLaw (cause : Cause) (quiet : Bool) (i : Nat) {s : State} (hkeys : KeysLaw s)
    (h : DeparturesLaw s) : DeparturesLaw (finishClose cause quiet i s) := by
  by_cases hopened : ∃ e, s.slot i = .opened e
  · obtain ⟨e, he⟩ := hopened
    have hdesc : Descends Entry.Aged s (finishClose cause quiet i s) :=
      (aged_shared s).finishClose cause quiet i (.aged_refl s)
    obtain ⟨hclosed, hothers, -⟩ := finishClose_orders cause quiet he
    have hhov := (finishClose_departure_directive (cause := cause) (quiet := quiet) he).1
    by_cases hdeparts : cause.departs = true
    · rw [if_pos hdeparts] at hhov
      obtain ⟨hplaces, hnodup, hopen⟩ := h
      obtain ⟨rest, hrest, hlength, hjoin⟩ :=
        joinDepartures_keys ⟨e.key, e.k, e.capReached, s.timebase⟩ s.hov.departures
      have hlist : (finishClose cause quiet i s).hov.departures = rest ++ [⟨e.key, e.k, e.capReached, s.timebase⟩] := by
        rw [hhov]; exact hjoin
      have hsub : rest.Sublist s.hov.departures := hrest.trans List.filter_sublist
      have hnew : e.key ∉ rest.map Departure.key := fun hmem => by
        obtain ⟨d, hd, hkey⟩ := List.mem_map.1 hmem
        simpa [hkey] using (List.mem_filter.1 (hrest.subset hd)).2
      refine ⟨?_, ?_, State.forall_opened_iff.2 fun j e' he' => ?_⟩
      · rw [hlist, List.length_append]
        simp only [Config.departurePlaces] at hplaces hlength ⊢
        simp only [List.length_singleton]
        omega
      · rw [hlist, List.map_append, List.map_singleton, ← List.concat_eq_append]
        exact (hnodup.sublist (hsub.map _)).concat hnew
      · have hj : j ≠ i := fun hji => by
          rw [hji] at he'
          simp [he', Slot.isOpen] at hclosed
        rw [hothers j hj] at he'
        rw [hlist, List.map_append, List.mem_append]
        rintro (hmem | hmem)
        · exact State.forall_opened_iff.1 hopen j e' he' ((hsub.map _).subset hmem)
        · rw [List.map_singleton, List.mem_singleton] at hmem
          exact hj (keysLaw_iff.1 hkeys j i e' e he' he hmem)
    · rw [if_neg hdeparts] at hhov
      exact h.of_descends hdesc (fun hr => hr.key) (by rw [hhov])
  · have : finishClose cause quiet i s = s := by
      unfold finishClose; split
      · next e he => exact absurd ⟨e, he⟩ hopened
      · rfl
    rwa [this]

/-! ## The keys and the departures together (R5, R59, R61) -/

/-- No key is open twice, and none both open and departed. -/
def DepartedLaw (s : State) : Prop := KeysLaw s ∧ DeparturesLaw s

section
variable {s t : State}

theorem DepartedLaw.of_descends {R : Entry → Entry → Prop} (hlaw : DepartedLaw s) (h : Descends R s t)
    (hR : ∀ {e e'}, R e e' → e'.key = e.key) (hlist : t.hov.departures.Sublist s.hov.departures) : DepartedLaw t :=
  ⟨hlaw.1.of_descends h hR, hlaw.2.of_descends h hR hlist⟩

theorem DepartedLaw.aged (hlaw : DepartedLaw s) (h : Descends Entry.Aged s t) (hhov : t.hov = s.hov) : DepartedLaw t :=
  hlaw.of_descends h (fun hr => hr.key) (by rw [hhov])

/-- The departure list alone moves, to one it holds. -/
theorem DepartedLaw.congr (hlaw : DepartedLaw s) (hsub : t.sub.slots = s.sub.slots)
    (hlist : t.hov.departures.Sublist s.hov.departures) : DepartedLaw t :=
  hlaw.of_descends ((Descends.aged_refl s).of_slots hsub) (fun hr => hr.key) hlist

theorem departedLaw_shared : KeptByShared DepartedLaw where
  frame ht h := h.congr (by rw [ht .sub (by decide)]) (by rw [ht .hov (by decide)])
  malformed h := h.congr rfl (.refl _)
  queueRadio _ _ h := h.congr rfl (.refl _)
  queueTerminal _ _ h := h.congr rfl (.refl _)
  restartSilence _ _ h := h.congr rfl (.refl _)
  terminalPin _ _ h := h.congr rfl (.refl _)
  announce a s h := h.congr (by rw [announce_touches a s .sub (by decide)])
    (by rw [announce_touches a s .hov (by decide)])
  offerBeacon {s} h := h.congr (by rw [offerBeacon_touches s .sub (by decide)])
    (by rw [offerBeacon_touches s .hov (by decide)])
  rateSlot final quiet zone link i s h := h.aged ((aged_shared s).rateSlot final quiet zone link i (.aged_refl s)) (by simp)
  offerInterval cause i s h := h.aged ((aged_shared s).offerInterval cause i (.aged_refl s))
    (offerInterval_touches cause i s .hov (by decide))
  finishClose cause quiet i s h := ⟨keysLaw_shared.finishClose cause quiet i h.1,
    finishClose_departuresLaw cause quiet i h.1 h.2⟩

theorem forgetClaim_departures (k : Nat) (s : State) : (forgetClaim k s).hov.departures = s.hov.departures := by
  unfold forgetClaim; dsimp only; split
  · rfl
  · rw [updateEntry_touches _ _ _ .hov (by decide)]

theorem offerRelease_departures (m : ReleaseMsg) (s : State) :
    (offerRelease m s).hov.departures = s.hov.departures := by
  rcases offerRelease_cases m s with ⟨-, he⟩ | ⟨-, he⟩ | ⟨-, he⟩ | ⟨k, q, -, he⟩ <;> rw [he]
  · rfl
  · exact forgetClaim_departures k _

theorem queueClaim_departures (k : Nat) (s : State) : (queueClaim k s).hov.departures = s.hov.departures := by
  unfold queueClaim offerClaim; split
  · rfl
  · split
    · rfl
    · split
      · rfl
      · exact forgetClaim_departures k _

theorem takeSending_departures (q : TxQueue) (s : State) : (takeSending q s).hov.departures = s.hov.departures := by
  cases q with
  | class1 =>
    simp only [takeSending, class1Sent]; split
    · rfl
    · split
      · exact forgetClaim_departures _ _
      · rfl
  | link => rfl
  | beacon => rfl
  | bill =>
    simp only [takeSending]; split
    · rfl
    · rw [billSent_touches _ _ .hov (by decide)]
  | drainEnd =>
    simp only [takeSending]; split
    · rfl
    · rw [drainEndSent_touches _ .hov (by decide)]
  | report => rfl

/-- A voyage start empties the departure list and touches no other part of the handover block. -/
theorem voyageStart_hov (s : State) : (voyageStart s).hov = { s.hov with departures := [] } := by
  unfold voyageStart
  extract_lets s1 _ s2 _ s3 s4
  have h1 : s1.hov = s.hov := ratingEvent_touches _ _ _ s .hov (by decide)
  have h4 : s4.hov = s3.hov := (Touches.foldl (bs := [.sub, .rch]) _ (fun _ _ => unbar_touches _ _) _ _) .hov (by decide)
  exact congrArg (fun h : Hov => { h with departures := [] }) (h4.trans h1)

/-- An admission takes its key out of the list before its entry is open. -/
theorem placeEntry_departedLaw (i key partner : Nat) (grant : Services) (h : DepartedLaw s)
    (hfree : s.firstFree = some i) (hclosed : s.findOpen key = none) :
    DepartedLaw (placeEntry i key partner grant s) := by
  refine ⟨placeEntry_keysLaw i key partner grant h.1 hfree hclosed, ?_⟩
  obtain ⟨hplaces, hnodup, hopen⟩ := h.2
  have hlist : (placeEntry i key partner grant s).hov.departures = s.hov.departures.filter fun d => d.key != key := rfl
  refine ⟨?_, ?_, State.forall_opened_iff.2 fun j e he => ?_⟩
  · rw [hlist]; exact (List.length_filter_le _ _).trans hplaces
  · rw [hlist]; exact hnodup.sublist (List.filter_sublist.map _)
  · rw [hlist]
    intro hmem
    obtain ⟨d, hd, hkey⟩ := List.mem_map.1 hmem
    obtain ⟨hold, hne⟩ := List.mem_filter.1 hd
    rw [placeEntry_slot i key partner grant hfree] at he
    split at he
    · cases he
      exact (bne_iff_ne.1 hne) hkey
    · exact State.forall_opened_iff.1 hopen j e he (hkey ▸ List.mem_map_of_mem hold)

/-- A table and a list after a reset. -/
theorem reset_departedLaw (hsub : t.sub = .reset) (hhov : t.hov = .reset) : DepartedLaw t := by
  refine ⟨keysLaw_iff.2 fun i _ e _ he => ?_, ?_⟩
  · simp [reset_slot hsub i] at he
  · rw [DeparturesLaw, hhov]
    exact ⟨Nat.zero_le _, List.nodup_nil, fun _ _ => by simp [Hov.reset]⟩

end

theorem departedLaw_rest : KeptByRest [.sub, .hov] (fun _ => True) DepartedLaw where
  frame hsame h := h.congr (by rw [hsame .sub (by decide)]) (by rw [hsame .hov (by decide)])
  powerOn _ _ _ _ := reset_departedLaw rfl rfl
  restartCold _ _ _ _ := departedLaw_shared.restartPrc (departedLaw_shared.restartSlc (reset_departedLaw rfl rfl))
  restartWarm b _ _ h := departedLaw_shared.restartPrc (departedLaw_shared.restartSlc
    (departedLaw_shared.warmBlocks b (h.congr rfl (.refl _)) (fun _ hu => hu.congr rfl (.refl _))
      (fun _ hu => hu.congr rfl (.refl _))
      fun u hu => hu.congr (by rw [restartBsdWarm_touches u .sub (by decide)])
        (by rw [restartBsdWarm_touches u .hov (by decide)])))
  voyageStart s _ h := h.of_descends (voyageStart_descends s) (fun hr => hr.key)
    (by rw [voyageStart_hov]; exact List.nil_sublist _)
  takeClaim := .inr fun n k _ _ h => departedLaw_shared.takeClaim n k h
    (fun m u hu => hu.of_descends (offerRelease_descends m (.unclaimed_refl u)) (fun hr => hr.key)
      (by rw [offerRelease_departures]))
    fun _ _ hu => hu.congr rfl List.filter_sublist
  takeRelease := .inr fun m s _ h => takeRelease_keeps m h
    (fun i => h.aged (mergeInto_descends i m (.aged_refl s)) (mergeInto_touches i m s .hov (by decide)))
    (h.congr rfl (.refl _))
  sending := .inr fun q s _ h _ =>
    (h.congr (t := { s with dbi := { s.dbi with onLine := none } }) rfl (.refl _)).of_descends
      (takeSending_descends q (.unclaimed_refl _)) (fun hr => hr.key) (by rw [takeSending_departures])
  departureExpired := .inr fun s _ h => by
    unfold departureExpired; split
    · exact h
    · next d rest hlist =>
      split
      · exact h.congr rfl (by rw [hlist]; exact List.sublist_cons_self _ _)
      · exact h
  attach := .inr fun k home v _ _ h => departedLaw_shared.attach k home v h fun i partner grant u hu hfree hok => by
    rw [admitInto_eq]
    exact (placeEntry_departedLaw i k partner grant hu hfree hok.closed).of_descends
      (queueClaim_descends k ((Descends.unclaimed_refl _).of_slots rfl)) (fun hr => hr.key)
      (by rw [queueClaim_departures]; exact .refl _)
  usage := .inr fun i data voice s _ h => h.aged (Descends.updateEntry (.aged_refl s) i _ (usage_aged data voice))
    (updateEntry_touches _ _ s .hov (by decide))
  unknownUsage := .inr fun _ _ _ h => h.congr rfl (.refl _)

theorem departedLaw_step : ∀ s t : State, DepartedLaw s → step s = .next t → DepartedLaw t :=
  (departedLaw_shared.parts departedLaw_rest).step_alone

end Sys2Proof.Machine
end

section
/-! The pending claims: the CLAIMs that wait in class 1, with the flags of the open entries (R47 to R49). -/

-- One theorem after another: all at once take more threads than the check's memory holds.
set_option Elab.async false

namespace Sys2Proof.Machine

/-! ## What the drain moves of the deck bus block (R74 to R77) -/

section
variable (s : State)

theorem offerBill_dbi : ∃ b, (offerBill s).dbi = { s.dbi with bill := b } := by
  unfold offerBill placeBill
  split
  · split
    · exact ⟨_, rfl⟩
    · exact ⟨_, rfl⟩
  · exact ⟨_, rfl⟩

theorem endDrain_dbi (status : StopStatus) (sent : Nat) :
    ∃ e, (endDrain status sent s).dbi = { s.dbi with drainEnd := e } := by
  unfold endDrain placeDrainEnd
  split
  · exact ⟨_, rfl⟩
  · exact ⟨_, rfl⟩

theorem beginDrain_dbi (count : Nat) : ∃ b e, (beginDrain count s).dbi = { s.dbi with bill := b, drainEnd := e } := by
  unfold beginDrain
  extract_lets _ s1
  split
  · obtain ⟨e, he⟩ := endDrain_dbi s1 .storeEmpty 0
    exact ⟨_, e, he⟩
  · obtain ⟨b, hb⟩ := offerBill_dbi s1
    exact ⟨b, _, hb⟩

theorem requestDrain_dbi (count : Nat) :
    ∃ b e, (requestDrain count s).dbi = { s.dbi with bill := b, drainEnd := e } := by
  unfold requestDrain
  split
  · exact beginDrain_dbi s count
  · next sent _ =>
    obtain ⟨b, hb⟩ := offerBill_dbi { s with bsd := { s.bsd with drain := .running count sent } }
    exact ⟨b, _, hb⟩
  · exact ⟨_, _, rfl⟩

theorem continueDrain_dbi : ∃ b e, (continueDrain s).dbi = { s.dbi with bill := b, drainEnd := e } := by
  unfold continueDrain
  split
  · obtain ⟨e, he⟩ := endDrain_dbi s .countDone _
    exact ⟨_, e, he⟩
  · split
    · obtain ⟨e, he⟩ := endDrain_dbi s .storeEmpty _
      exact ⟨_, e, he⟩
    · obtain ⟨b, hb⟩ := offerBill_dbi s
      exact ⟨b, _, hb⟩
  · exact ⟨_, _, rfl⟩

theorem drainEndSent_dbi : ∃ b e, (drainEndSent s).dbi = { s.dbi with bill := b, drainEnd := e } := by
  unfold drainEndSent
  split
  · dsimp only
    split
    · exact ⟨_, _, rfl⟩
    · exact beginDrain_dbi { s with bsd := { s.bsd with drain := .idle } } _
  · exact ⟨_, _, rfl⟩

theorem billSent_dbi (b : Stored) : ∃ x e, (billSent b s).dbi = { s.dbi with bill := x, drainEnd := e } := by
  obtain ⟨x, e, he⟩ := continueDrain_dbi (storeRoom (takeOutBill b s))
  exact ⟨x, e, by rw [billSent_eq, he, storeRoom_touches _ .dbi (by decide)]; rfl⟩

theorem restartBsdWarm_dbi : ∃ e, (restartBsdWarm s).dbi = { s.dbi with drainEnd := e } := by
  unfold restartBsdWarm
  split
  · exact ⟨_, rfl⟩
  · exact endDrain_dbi s _ _
  · exact endDrain_dbi s _ _

end

/-! ## The CLAIMs of a class-1 queue -/

/-- The keys of the CLAIMs that wait in a class-1 queue, in order. -/
def claimKeys (q : List (Waiting Class1)) : List Nat := q.filterMap claimKey?

theorem claimKeys_append (p q : List (Waiting Class1)) : claimKeys (p ++ q) = claimKeys p ++ claimKeys q :=
  List.filterMap_append

theorem claimKeys_cons_claim {w : Waiting Class1} {k : Nat} (h : w.frame = .claim k) (q : List (Waiting Class1)) :
    claimKeys (w :: q) = k :: claimKeys q := List.filterMap_cons_some (by rw [claimKey?, h])

theorem claimKeys_cons_release {w : Waiting Class1} {m : ReleaseMsg} (h : w.frame = .release m)
    (q : List (Waiting Class1)) : claimKeys (w :: q) = claimKeys q := List.filterMap_cons_none (by rw [claimKey?, h])

/-- The oldest CLAIM's key comes first. -/
theorem claimKeys_splitClaim {q q' : List (Waiting Class1)} {k : Nat} (h : splitClaim q = some (k, q')) :
    claimKeys q = k :: claimKeys q' := by
  induction q generalizing q' with
  | nil => simp [splitClaim] at h
  | cons w rest ih =>
    unfold splitClaim at h
    split at h
    · next hw =>
      cases h
      exact claimKeys_cons_claim hw _
    · next hw =>
      obtain ⟨⟨k', r⟩, hr, he⟩ := Option.map_eq_some_iff.1 h
      cases he
      rw [claimKeys_cons_release hw, claimKeys_cons_release hw, ih hr]

/-- A CLAIM dropped takes its key out of those that wait. -/
theorem claimKeys_splitFreeClaim {b : Bool} {q q' : List (Waiting Class1)} {k : Nat}
    (h : splitFreeClaim b q = some (k, q')) (hnodup : (claimKeys q).Nodup) :
    claimKeys q' = (claimKeys q).erase k := by
  unfold splitFreeClaim at h
  split at h
  · split at h
    · simp at h
    · next w rest =>
      obtain ⟨⟨k', r⟩, hr, he⟩ := Option.map_eq_some_iff.1 h
      cases he
      have hrest := claimKeys_splitClaim hr
      cases hw : w.frame with
      | claim k0 =>
        rw [claimKeys_cons_claim hw, hrest] at hnodup
        have hne : k0 ≠ k' := fun heq => (List.nodup_cons.1 hnodup).1 (heq ▸ List.mem_cons_self)
        rw [claimKeys_cons_claim hw, claimKeys_cons_claim hw, hrest, List.erase_cons_tail (by simpa using hne),
          List.erase_cons_head]
      | release m => rw [claimKeys_cons_release hw, claimKeys_cons_release hw, hrest, List.erase_cons_head]
  · rw [claimKeys_splitClaim h, List.erase_cons_head]

theorem claimKeys_deferHead (q : List (Waiting Class1)) : claimKeys (deferHead q) = claimKeys q := by
  cases q with
  | nil => rfl
  | cons w rest =>
    cases hw : w.frame with
    | claim k => rw [deferHead, claimKeys_cons_claim hw, claimKeys_cons_claim (show w.defer.frame = _ from hw)]
    | release m => rw [deferHead, claimKeys_cons_release hw, claimKeys_cons_release (show w.defer.frame = _ from hw)]

/-! ## A pending claim forgotten (R48, R49) -/

section
variable {s t : State} {k : Nat}

/-- A key leaves the pending claims, none of its entries open. -/
theorem forgetClaim_of_none (h : s.findOpen k = none) :
    forgetClaim k s = { s with hov := { s.hov with pendingClaims := s.hov.pendingClaims.erase k } } := by
  have h' : State.findOpen { s with hov := { s.hov with pendingClaims := s.hov.pendingClaims.erase k } } k = none := h
  simp only [forgetClaim, h']

/-- A key leaves the pending claims, and the flag of its open entry falls. -/
theorem forgetClaim_of_open {i : Nat} {e : Entry} (h : s.findOpen k = some i) (he : s.slot i = .opened e) :
    forgetClaim k s = State.setSlot
      { s with hov := { s.hov with pendingClaims := s.hov.pendingClaims.erase k } } i
      (.opened { e with claimPending := false }) := by
  have h' : State.findOpen { s with hov := { s.hov with pendingClaims := s.hov.pendingClaims.erase k } } k = some i := h
  have he' : State.slot { s with hov := { s.hov with pendingClaims := s.hov.pendingClaims.erase k } } i = .opened e := he
  simp only [forgetClaim, h', State.updateEntry, he']

theorem forgetClaim_pendingClaims (k : Nat) (s : State) :
    (forgetClaim k s).hov.pendingClaims = s.hov.pendingClaims.erase k := by
  unfold forgetClaim; dsimp only; split
  · rfl
  · rw [updateEntry_touches _ _ _ .hov (by decide)]

/-- The entry of the key loses its flag, the others keep theirs. -/
theorem forgetClaim_slot (hkeys : KeysLaw s) {j : Nat} {e' : Entry} (h : (forgetClaim k s).slot j = .opened e') :
    ∃ e, s.slot j = .opened e ∧ e'.key = e.key ∧
      (e'.claimPending = true ↔ e.claimPending = true ∧ e.key ≠ k) := by
  cases hf : s.findOpen k with
  | none =>
    rw [forgetClaim_of_none hf] at h
    exact ⟨e', h, rfl, by simp [State.findOpen_none hf (show s.slot j = .opened e' from h)]⟩
  | some i =>
    obtain ⟨hi, e, he, hkey⟩ := State.findOpen_some hf
    rw [forgetClaim_of_open hf he, State.slot_setSlot] at h
    split at h
    · next hij =>
      cases h
      exact ⟨e, hij.1 ▸ he, rfl, by simp [hkey]⟩
    · next hij =>
      refine ⟨e', h, rfl, ?_⟩
      have hne : e'.key ≠ k := fun heq =>
        hij ⟨keysLaw_iff.1 hkeys i j e e' he h (hkey.trans heq.symm), hi⟩
      simp [hne]

/-! ## The law of the claims -/

/-- The flag of each open entry says whether its key is among these. -/
def FlagsSay (keys : List Nat) (s : State) : Prop :=
  ∀ i e, s.slot i = .opened e → (e.claimPending = true ↔ e.key ∈ keys)

theorem claimsLaw_iff : ClaimsLaw s ↔ s.hov.pendingClaims = claimKeys s.dbi.class1 ∧ s.hov.pendingClaims.Nodup ∧
    FlagsSay s.hov.pendingClaims s := by
  rw [ClaimsLaw, State.forall_opened_iff]
  exact Iff.rfl

theorem FlagsSay.of_descends {R : Entry → Entry → Prop} {keys : List Nat} (hflags : FlagsSay keys s)
    (h : Descends R s t) (hR : ∀ {e e'}, R e e' → e.SameHolder e') : FlagsSay keys t := fun i e' he' => by
  obtain ⟨e, he, hr⟩ := h i e' he'
  rw [(hR hr).claim, (hR hr).key]
  exact hflags i e he

theorem ClaimsLaw.of_descends {R : Entry → Entry → Prop} (hlaw : ClaimsLaw s) (h : Descends R s t)
    (hR : ∀ {e e'}, R e e' → e.SameHolder e') (hpending : t.hov.pendingClaims = s.hov.pendingClaims)
    (hqueue : claimKeys t.dbi.class1 = claimKeys s.dbi.class1) : ClaimsLaw t := by
  rw [claimsLaw_iff] at hlaw ⊢
  obtain ⟨hsame, hnodup, hflags⟩ := hlaw
  rw [hpending, hqueue]
  exact ⟨hsame, hnodup, hflags.of_descends h hR⟩

theorem ClaimsLaw.aged (hlaw : ClaimsLaw s) (h : Descends Entry.Aged s t)
    (hpending : t.hov.pendingClaims = s.hov.pendingClaims)
    (hqueue : claimKeys t.dbi.class1 = claimKeys s.dbi.class1) : ClaimsLaw t :=
  hlaw.of_descends h (fun hr => hr.toSameHolder) hpending hqueue

theorem ClaimsLaw.congr (hlaw : ClaimsLaw s) (hsub : t.sub.slots = s.sub.slots)
    (hpending : t.hov.pendingClaims = s.hov.pendingClaims)
    (hqueue : claimKeys t.dbi.class1 = claimKeys s.dbi.class1) : ClaimsLaw t :=
  hlaw.aged ((Descends.aged_refl s).of_slots hsub) hpending hqueue

/-- A key forgotten whose CLAIM has left the queue. -/
theorem forgetClaim_claimsLaw (hkeys : KeysLaw s) (hnodup : s.hov.pendingClaims.Nodup)
    (hflags : FlagsSay s.hov.pendingClaims s) (hqueue : claimKeys s.dbi.class1 = s.hov.pendingClaims.erase k) :
    ClaimsLaw (forgetClaim k s) := by
  rw [claimsLaw_iff, forgetClaim_pendingClaims, forgetClaim_touches k s .dbi (by decide)]
  refine ⟨hqueue.symm, hnodup.erase k, fun j e' he' => ?_⟩
  obtain ⟨e, he, hkey, hclaim⟩ := forgetClaim_slot hkeys he'
  rw [hclaim, hflags j e he, hkey, hnodup.mem_erase_iff]
  exact and_comm

theorem offerRelease_claimsLaw (m : ReleaseMsg) (hkeys : KeysLaw s) (h : ClaimsLaw s) : ClaimsLaw (offerRelease m s) := by
  have hrelease : ∀ q : List (Waiting Class1), claimKeys (q ++ [s.enter (.release m)]) = claimKeys q := fun q => by
    rw [claimKeys_append, claimKeys_cons_release rfl]
    exact List.append_nil _
  rcases offerRelease_cases m s with ⟨-, he⟩ | ⟨-, he⟩ | ⟨-, he⟩ | ⟨k, q, hq, he⟩ <;> rw [he]
  · exact h
  · exact h.congr rfl rfl (hrelease _)
  · exact h.congr rfl rfl rfl
  · obtain ⟨hsame, hnodup, hflags⟩ := claimsLaw_iff.1 h
    refine forgetClaim_claimsLaw (s := countClass1Drop { s with dbi := _ }) hkeys hnodup hflags ?_
    rw [hsame] at hnodup
    exact (hrelease q).trans ((claimKeys_splitFreeClaim hq hnodup).trans (by rw [← hsame]; rfl))

theorem class1Sent_claimsLaw (hkeys : KeysLaw s) (h : ClaimsLaw s) : ClaimsLaw (class1Sent s) := by
  unfold class1Sent; split
  · exact h
  · next w rest hq =>
    obtain ⟨hsame, hnodup, hflags⟩ := claimsLaw_iff.1 h
    rw [hq] at hsame
    split
    · next key hw =>
      rw [claimKeys_cons_claim hw] at hsame
      refine forgetClaim_claimsLaw hkeys hnodup hflags ?_
      show claimKeys rest = s.hov.pendingClaims.erase key
      rw [hsame, List.erase_cons_head]
    · next m hw =>
      rw [claimKeys_cons_release hw] at hsame
      exact h.congr rfl rfl (by rw [hq, claimKeys_cons_release hw])

theorem takeSending_claimsLaw (q : TxQueue) (hkeys : KeysLaw s) (h : ClaimsLaw s) : ClaimsLaw (takeSending q s) := by
  cases q with
  | class1 => exact class1Sent_claimsLaw hkeys h
  | link => exact h.congr rfl rfl rfl
  | beacon => exact h.congr rfl rfl rfl
  | bill =>
    simp only [takeSending]; split
    · exact h
    · next w _ =>
      obtain ⟨x, e, hd⟩ := billSent_dbi { s with dbi := { s.dbi with bill := none } } w.frame
      exact ClaimsLaw.aged (s := { s with dbi := { s.dbi with bill := none } }) (h.congr rfl rfl rfl)
        (billSent_descends _ (.aged_refl _)) (by rw [billSent_touches _ _ .hov (by decide)]) (by rw [hd])
  | drainEnd =>
    simp only [takeSending]; split
    · exact h
    · obtain ⟨x, e, hd⟩ := drainEndSent_dbi { s with dbi := { s.dbi with drainEnd := none } }
      exact ClaimsLaw.congr (s := { s with dbi := { s.dbi with drainEnd := none } }) (h.congr rfl rfl rfl)
        (by rw [drainEndSent_touches _ .sub (by decide)]) (by rw [drainEndSent_touches _ .hov (by decide)]) (by rw [hd])
  | report => exact h.congr rfl rfl rfl

/-- The CLAIM of a key whose entry has just been made: queued, or dropped and forgotten; nothing where it is pending. -/
theorem queueClaim_claimsLaw (hkeys : KeysLaw s) (hbus : s.listenOnly = false)
    (hsame : s.hov.pendingClaims = claimKeys s.dbi.class1) (hnodup : s.hov.pendingClaims.Nodup)
    (hflags : ∀ i e, s.slot i = .opened e → (e.claimPending = true ↔ e.key = k ∨ e.key ∈ s.hov.pendingClaims)) :
    ClaimsLaw (queueClaim k s) := by
  unfold queueClaim; split
  · next hpending =>
    refine claimsLaw_iff.2 ⟨hsame, hnodup, fun i e he => (hflags i e he).trans ⟨?_, .inr⟩⟩
    rintro (rfl | hmem)
    · simpa using hpending
    · exact hmem
  · next hpending =>
    have hnew : k ∉ s.hov.pendingClaims := by simpa using hpending
    have hnodup' : (s.hov.pendingClaims ++ [k]).Nodup := by
      rw [← List.concat_eq_append]; exact hnodup.concat hnew
    have hflags' : ∀ i e, s.slot i = .opened e → (e.claimPending = true ↔ e.key ∈ s.hov.pendingClaims ++ [k]) :=
      fun i e he => (hflags i e he).trans (by rw [List.mem_append, List.mem_singleton, or_comm])
    rcases offerClaim_cases k (s := { s with hov := { s.hov with pendingClaims := s.hov.pendingClaims ++ [k] } }) hbus
      with ⟨-, he⟩ | ⟨-, he⟩ <;> rw [he]
    · refine claimsLaw_iff.2 ⟨?_, hnodup', hflags'⟩
      show s.hov.pendingClaims ++ [k] = claimKeys (s.dbi.class1 ++ _)
      rw [claimKeys_append, hsame, claimKeys_cons_claim rfl]
      rfl
    · refine forgetClaim_claimsLaw (s := countClass1Drop { s with hov := _ }) hkeys hnodup' hflags' ?_
      show claimKeys s.dbi.class1 = (s.hov.pendingClaims ++ [k]).erase k
      rw [List.erase_append_right _ hnew, List.erase_cons_head, List.append_nil, hsame]

end

theorem claimsLaw_shared : KeptByShared ClaimsLaw where
  frame ht h := h.congr (by rw [ht .sub (by decide)]) (by rw [ht .hov (by decide)]) (by rw [ht .dbi (by decide)])
  malformed h := h.congr rfl rfl rfl
  queueRadio _ _ h := h.congr rfl rfl rfl
  queueTerminal _ _ h := h.congr rfl rfl rfl
  restartSilence _ _ h := h.congr rfl rfl rfl
  terminalPin _ _ h := h.congr rfl rfl rfl
  announce a s h := by
    obtain ⟨l, b, hd⟩ := announce_dbi a s
    exact h.congr (by rw [announce_touches a s .sub (by decide)]) (by rw [announce_touches a s .hov (by decide)]) (by rw [hd])
  offerBeacon {s} h := by
    obtain ⟨b, hd⟩ := offerBeacon_dbi s
    exact h.congr (by rw [offerBeacon_touches s .sub (by decide)]) (by rw [offerBeacon_touches s .hov (by decide)])
      (by rw [hd])
  rateSlot final quiet zone link i s h :=
    have ht := rateSlot_touches final quiet zone link i s
    h.aged ((aged_shared s).rateSlot final quiet zone link i (.aged_refl s)) (by rw [ht .hov (by decide)])
      (by rw [ht .dbi (by decide)])
  offerInterval cause i s h :=
    have ht := offerInterval_touches cause i s
    h.aged ((aged_shared s).offerInterval cause i (.aged_refl s)) (by rw [ht .hov (by decide)])
      (by rw [ht .dbi (by decide)])
  finishClose cause quiet i s h := by
    have hdbi := finishClose_touches cause quiet i s .dbi (by decide)
    refine h.aged ((aged_shared s).finishClose cause quiet i (.aged_refl s)) ?_ (by rw [hdbi])
    by_cases hopen : ∃ e, s.slot i = .opened e
    · obtain ⟨e, he⟩ := hopen
      rw [(finishClose_departure_directive (cause := cause) (quiet := quiet) he).1]
      split
      · rfl
      · rfl
    · unfold finishClose; split
      · next e he => exact absurd ⟨e, he⟩ hopen
      · rfl

/-- Two laws that the shared operations keep are kept together. -/
theorem KeptByShared.and {P Q : State → Prop} (hP : KeptByShared P) (hQ : KeptByShared Q) :
    KeptByShared fun s => P s ∧ Q s where
  frame ht h := ⟨hP.frame ht h.1, hQ.frame ht h.2⟩
  malformed h := ⟨hP.malformed h.1, hQ.malformed h.2⟩
  queueRadio d _ h := ⟨hP.queueRadio d h.1, hQ.queueRadio d h.2⟩
  queueTerminal d _ h := ⟨hP.queueTerminal d h.1, hQ.queueTerminal d h.2⟩
  restartSilence now _ h := ⟨hP.restartSilence now h.1, hQ.restartSilence now h.2⟩
  terminalPin level _ h := ⟨hP.terminalPin level h.1, hQ.terminalPin level h.2⟩
  announce a _ h := ⟨hP.announce a h.1, hQ.announce a h.2⟩
  offerBeacon h := ⟨hP.offerBeacon h.1, hQ.offerBeacon h.2⟩
  rateSlot final quiet zone link i _ h := ⟨hP.rateSlot final quiet zone link i h.1, hQ.rateSlot final quiet zone link i h.2⟩
  offerInterval cause i _ h := ⟨hP.offerInterval cause i h.1, hQ.offerInterval cause i h.2⟩
  finishClose cause quiet i _ h := ⟨hP.finishClose cause quiet i h.1, hQ.finishClose cause quiet i h.2⟩

/-- A part with no pending claim, no CLAIM waiting and no open entry keeps the law. -/
theorem claimsLaw_of_none {s : State} (hpending : s.hov.pendingClaims = []) (hqueue : s.dbi.class1 = [])
    (hopen : ∀ i, (s.slot i).isOpen = false) : ClaimsLaw s := by
  rw [claimsLaw_iff, hpending, hqueue]
  refine ⟨rfl, List.nodup_nil, fun i e he => ?_⟩
  have := hopen i
  rw [he] at this
  simp [Slot.isOpen] at this

/-- The blocks after the close of every entry at a warm restart: none is open, none claimed. -/
theorem warmBlocks_closed (b : Board) {s : State} (horders : OrdersLaw s) :
    (∀ i, ((warmBlocks b s).slot i).isOpen = false) ∧ (warmBlocks b s).sub.attachOrder = [] ∧
      s.sub.closingOrder <+: (warmBlocks b s).sub.closingOrder := by
  have hsub : (restartRtkWarm (restartTblWarm (restartPorts b s))).sub = s.sub := rfl
  obtain ⟨hattach, hshut, hclosing⟩ := sweep_orders .dormant true (horders.of_sub hsub)
  have hwarm : (warmBlocks b s).sub =
      { (sweep .dormant true (restartRtkWarm (restartTblWarm (restartPorts b s)))).sub with unknownUsage := 0 } :=
    restartBsdWarm_touches _ .sub (by decide)
  refine ⟨fun i => ?_, by rw [hwarm]; exact hattach, by rw [hwarm]; exact hclosing⟩
  rw [State.slot_congr (s := sweep .dormant true (restartRtkWarm (restartTblWarm (restartPorts b s)))) (by rw [hwarm])]
  exact hshut i

theorem warmBlocks_pendingClaims (b : Board) (s : State) : (warmBlocks b s).hov.pendingClaims = [] := by
  rw [warmBlocks, restartBsdWarm_touches _ .hov (by decide)]
  rfl

/-- The transmit queues after a warm restart's first eight steps: at most a DRAIN-END waits. -/
theorem warmBlocks_dbi (b : Board) (s : State) : ∃ e, (warmBlocks b s).dbi = { Dbi.reset with drainEnd := e } := by
  obtain ⟨e, he⟩ := restartBsdWarm_dbi
    (restartHovWarm (restartSubWarm (restartRtkWarm (restartTblWarm (restartPorts b s)))))
  have hswept : (sweep .dormant true (restartRtkWarm (restartTblWarm (restartPorts b s)))).dbi = .reset :=
    sweep_touches _ _ _ .dbi (by decide)
  exact ⟨e, he.trans (congrArg (fun d : Dbi => { d with drainEnd := e }) hswept)⟩

theorem claimsLaw_rest : KeptByRest [.sub, .hov, .dbi] (fun s => OrdersLaw s ∧ KeysLaw s) ClaimsLaw where
  frame hsame h := h.congr (by rw [hsame .sub (by decide)]) (by rw [hsame .hov (by decide)]) (by rw [hsame .dbi (by decide)])
  powerOn _ _ _ _ := claimsLaw_of_none rfl rfl fun i => by rw [reset_slot rfl i]; rfl
  restartCold _ _ _ _ := claimsLaw_shared.restartPrc (claimsLaw_shared.restartSlc
    (claimsLaw_of_none rfl rfl fun i => by rw [reset_slot rfl i]; rfl))
  restartWarm b s hi _ := by
    obtain ⟨e, hd⟩ := warmBlocks_dbi b s
    have hqueue : (warmBlocks b s).dbi.class1 = [] := by rw [hd]; rfl
    exact claimsLaw_shared.restartPrc (claimsLaw_shared.restartSlc
      (claimsLaw_of_none (warmBlocks_pendingClaims b s) hqueue (warmBlocks_closed b hi.1).1))
  voyageStart s _ h := h.of_descends (voyageStart_descends s) id (by rw [voyageStart_hov])
    (by rw [voyageStart_touches s .dbi (by decide)])
  takeClaim := .inr fun n k _ hi h => ((keysLaw_shared.and claimsLaw_shared).takeClaim n k ⟨hi.2, h⟩
    (fun m u hu => ⟨hu.1.unclaimed (offerRelease_descends m (.unclaimed_refl u)), offerRelease_claimsLaw m hu.1 hu.2⟩)
    fun _ _ hu => ⟨hu.1, hu.2.congr rfl rfl rfl⟩).2
  takeRelease := .inr fun m s _ h => takeRelease_keeps m h
    (fun i => h.aged (mergeInto_descends i m (.aged_refl s)) (by rw [mergeInto_touches i m s .hov (by decide)])
      (by rw [mergeInto_touches i m s .dbi (by decide)]))
    (h.congr rfl rfl rfl)
  takeDrainRequest := .inr fun x n s _ h => by
    unfold takeDrainRequest; split
    · obtain ⟨b, e, hd⟩ := requestDrain_dbi s (clampDrain n)
      exact h.congr (by rw [requestDrain_touches _ _ .sub (by decide)]) (by rw [requestDrain_touches _ _ .hov (by decide)])
        (by rw [hd])
    · exact h
  takeQuery := .inr fun x s _ h => by
    unfold takeQuery offerReport; split
    · split
      · exact h
      · split <;> exact h.congr rfl rfl rfl
    · exact h
  receiveError := .inr fun c s _ h => by cases c <;> exact h.congr rfl rfl rfl
  startFrame := .inr fun s _ h => by
    unfold startFrame; split
    · exact h
    · split
      · exact h
      · next q _ =>
        cases q with
        | beacon => exact h.congr rfl rfl rfl
        | _ => exact h.congr rfl rfl rfl
  loseFrame := .inr fun s _ h => h.congr rfl rfl (loseFrame_claimKeys s.dbi)
  loseLine := .inr fun s _ h => by
    unfold loseLine; split
    · exact h.congr rfl rfl (loseFrame_claimKeys s.dbi)
    · exact h
  sending := .inr fun q s hi h _ => takeSending_claimsLaw q (s := { s with dbi := { s.dbi with onLine := none } }) hi.2
    (h.congr rfl rfl rfl)
  departureExpired := .inr fun s _ h => by
    unfold departureExpired; split
    · exact h
    · split
      · exact h.congr rfl rfl rfl
      · exact h
  attach := .inr fun k home v _ hi h => ((keysLaw_shared.and claimsLaw_shared).attach k home v ⟨hi.2, h⟩
    fun i partner grant u hu hfree hok => by
      obtain ⟨hsame, hnodup, hflags⟩ := claimsLaw_iff.1 hu.2
      have hplaced := placeEntry_keysLaw i k partner grant hu.1 hfree hok.closed
      rw [admitInto_eq]
      refine ⟨hplaced.unclaimed (queueClaim_descends k ((Descends.unclaimed_refl _).of_slots rfl)),
        queueClaim_claimsLaw (s := queueRadio _ (placeEntry i k partner grant u)) hplaced hok.bus hsame hnodup
          fun j e he => ?_⟩
      rw [State.slot_queueRadio, placeEntry_slot i k partner grant hfree] at he
      split at he
      · cases he
        exact iff_of_true rfl (.inl rfl)
      · have hne := State.findOpen_eq_none_iff.1 hok.closed j e he
        exact (hflags j e he).trans (by simp [hne, placeEntry, forgetDeparture])).2
  usage := .inr fun i data voice s _ h => h.aged (Descends.updateEntry (.aged_refl s) i _ (usage_aged data voice))
    (by rw [updateEntry_touches _ _ s .hov (by decide)]) (by rw [updateEntry_touches _ _ s .dbi (by decide)])
  unknownUsage := .inr fun _ _ _ h => h.congr rfl rfl rfl
where
  loseFrame_claimKeys (d : Dbi) : claimKeys (loseFrame d).class1 = claimKeys d.class1 := by
    unfold loseFrame; split
    · rfl
    · exact claimKeys_deferHead _
    all_goals rfl

theorem keysLaw_before : KeptBefore KeysLaw :=
  keysLaw_shared.before (fun _ _ h => h) (fun _ _ h => h)
    fun q s h => h.unclaimed (takeSending_descends (s := s) q (.unclaimed_refl s))

theorem KeptBefore.and {P Q : State → Prop} (hP : KeptBefore P) (hQ : KeptBefore Q) : KeptBefore fun s => P s ∧ Q s where
  heardFrom n m s h := ⟨hP.heardFrom n m s h.1, hQ.heardFrom n m s h.2⟩
  endWindow n s h := ⟨hP.endWindow n s h.1, hQ.endWindow n s h.2⟩
  radio s c h := ⟨hP.radio s c h.1, hQ.radio s c h.2⟩
  terminal s c h := ⟨hP.terminal s c h.1, hQ.terminal s c h.2⟩
  sending q s h := ⟨hP.sending q s h.1, hQ.sending q s h.2⟩

/-- Settles O54: the pending claims with the queue and the flags, given that no key is open twice; the departure list with
the keys. -/
theorem stepKeepsTheClaimsAndTheDepartures : Obligations.StepKeepsTheClaimsAndTheDepartures := by
  refine ⟨fun s t ⟨horders, hkeys, hclaims⟩ => ?claims, fun s t ⟨_, hkeys, hdepartures⟩ hstep => ?departures⟩
  case claims =>
    exact (claimsLaw_shared.parts claimsLaw_rest).step (ordersLaw_before.and keysLaw_before) (fun _ _ h => h) rfl s t
      ⟨⟨horders, hkeys⟩, hclaims⟩
  case departures => exact (departedLaw_step s t ⟨hkeys, hdepartures⟩ hstep).2

end Sys2Proof.Machine
end

section
/-! Partner rows and zones: every open entry's row passes the re-check (R15, R89). -/

-- One theorem after another: all at once take more threads than the check's memory holds.
set_option Elab.async false

namespace Sys2Proof.Machine

section
variable {s t : State}

theorem PartnerLaw.of_descends {R : Entry → Entry → Prop} (hlaw : PartnerLaw s) (h : Descends R s t)
    (hR : ∀ {e e'}, R e e' → e'.partner = e.partner) (hzone : t.rtk.zone = s.rtk.zone)
    (hrows : t.tbl.partners = s.tbl.partners) : PartnerLaw t := by
  rw [PartnerLaw, State.forall_opened_iff] at hlaw ⊢
  intro i e' he'
  obtain ⟨e, he, hr⟩ := h i e' he'
  rw [State.partnerRow, hrows, hzone, hR hr]
  exact hlaw i e he

/-- The law after what ages the entries and touches neither route nor tables. -/
theorem PartnerLaw.aged {bs : List Block} (hlaw : PartnerLaw s) (h : Descends Entry.Aged s t) (ht : Touches bs s t)
    (hr : Block.rtk ∉ bs := by decide) (hb : Block.tbl ∉ bs := by decide) : PartnerLaw t :=
  hlaw.of_descends h (fun ha => ha.partner) (by rw [ht .rtk hr]) (by rw [ht .tbl hb])

theorem PartnerLaw.unclaimed {bs : List Block} (hlaw : PartnerLaw s) (h : Descends Entry.Unclaimed s t)
    (ht : Touches bs s t) (hr : Block.rtk ∉ bs := by decide) (hb : Block.tbl ∉ bs := by decide) : PartnerLaw t :=
  hlaw.of_descends h (fun ha => ha.partner) (by rw [ht .rtk hr]) (by rw [ht .tbl hb])

theorem PartnerLaw.congr (hlaw : PartnerLaw s) (hsub : t.sub.slots = s.sub.slots) (hzone : t.rtk.zone = s.rtk.zone)
    (hrows : t.tbl.partners = s.tbl.partners) : PartnerLaw t :=
  hlaw.of_descends ((Descends.aged_refl s).of_slots hsub) (fun ha => ha.partner) hzone hrows

theorem partnerLaw_of_shut (h : ∀ i, (s.slot i).isOpen = false) : PartnerLaw s := by
  rw [PartnerLaw, State.forall_opened_iff]
  intro i e he
  have := h i
  rw [he] at this
  simp [Slot.isOpen] at this

/-- A sweep of open slots that leaves only entries whose row passes. -/
theorem closeAll_partnerLaw (cause : Cause) (quiet : Bool) {l : List Nat} (horders : OrdersLaw s)
    (hl : l.Sublist s.sub.attachOrder)
    (hkeep : ∀ j e, s.slot j = .opened e → j ∉ l → (s.partnerRow e.partner).fails s.rtk.zone = false) :
    PartnerLaw (closeAll cause quiet l s) := by
  obtain ⟨-, hattach, -, hopen, -⟩ := horders
  obtain ⟨hclosed, hothers, -⟩ :=
    closeAll_orders cause quiet l s (hattach.sublist hl) fun i hi => (hopen i).1 (hl.subset hi)
  have ht := closeAll_touches cause quiet l s
  rw [PartnerLaw, State.forall_opened_iff]
  intro j e he
  have hj : j ∉ l := fun hj => by
    have := hclosed j hj
    rw [he] at this
    simp [Slot.isOpen] at this
  rw [State.partnerRow, ht .tbl (by decide), ht .rtk (by decide)]
  exact hkeep j e ((hothers j hj).symm.trans he) hj

/-- The re-check of every entry at a zone change leaves those whose row passes (R89). -/
theorem recheckAll_partnerLaw (horders : OrdersLaw s) : PartnerLaw (recheckAll s) := by
  refine closeAll_partnerLaw _ _ horders List.filter_sublist fun j e he hj => ?_
  obtain ⟨-, -, -, hopen, -⟩ := horders
  have hin : j ∈ s.sub.attachOrder := (hopen j).2 (by rw [he]; rfl)
  have hpass : s.failsRecheck j = false := Bool.eq_false_iff.2 fun hfails => hj (List.mem_filter.2 ⟨hin, hfails⟩)
  rwa [State.failsRecheck, he] at hpass

/-- The re-check of a PARTNER row leaves the entries of other rows, and of this one those that pass (R15). -/
theorem recheckRow_partnerLaw (row : Nat) (horders : OrdersLaw s)
    (hothers : ∀ i e, s.slot i = .opened e → e.partner ≠ row → (s.partnerRow e.partner).fails s.rtk.zone = false) :
    PartnerLaw (recheckRow row s) := by
  refine closeAll_partnerLaw _ _ horders List.filter_sublist fun j e he hj => ?_
  obtain ⟨-, -, -, hopen, -⟩ := horders
  have hin : j ∈ s.sub.attachOrder := (hopen j).2 (by rw [he]; rfl)
  by_cases hrow : e.partner = row
  · refine Bool.eq_false_iff.2 fun hfails => hj (List.mem_filter.2 ⟨hin, ?_⟩)
    simp [State.onPartner, State.failsRecheck, he, hrow, ← hfails]
  · exact hothers j e he hrow

theorem changeZone_partnerLaw (zone : Nat) (horders : OrdersLaw s) : PartnerLaw (changeZone zone s) := by
  have hzone : OrdersLaw { s with rtk := { s.rtk with zone := zone } } := horders.of_sub rfl
  exact recheckAll_partnerLaw (ordersLaw_shared.sendIdentity (ordersLaw_shared.ratingEvent _ _ _ hzone))

theorem legEvaluation_partnerLaw (horders : OrdersLaw s) (h : PartnerLaw s) : PartnerLaw (legEvaluation s) := by
  unfold legEvaluation
  extract_lets s1 s2
  have h1 : PartnerLaw s1 := by
    simp only [s1]; split
    · exact h
    · exact changeZone_partnerLaw _ horders
  have h2 : PartnerLaw s2 := by
    simp only [s2]; split
    · exact h1
    · exact h1.of_descends ((aged_shared s1).silenceChanged _ (.aged_refl s1)) (fun ha => ha.partner)
        (by rw [silenceChanged_rtk]) (by rw [silenceChanged_touches _ _ .tbl (by decide)])
  split
  · exact h2
  · have hplan : PartnerLaw { s2 with rtk := { s2.rtk with
        planLink := s.derivedPlan, nextPlanLink := s.derivedNextPlan } } := h2.congr rfl rfl rfl
    exact hplan.aged ((aged_shared _).evaluate (.aged_refl _)) (evaluate_touches _)

theorem moveLeg_partnerLaw (leg : Nat) (horders : OrdersLaw s) (h : PartnerLaw s) : PartnerLaw (moveLeg leg s) := by
  unfold moveLeg; split
  · exact h
  · exact legEvaluation_partnerLaw (horders.of_sub rfl) (h.congr rfl rfl rfl)

theorem takeMark_partnerLaw (leg : Nat) (horders : OrdersLaw s) (h : PartnerLaw s) : PartnerLaw (takeMark leg s) := by
  unfold takeMark; split
  · exact h
  · split
    · exact moveLeg_partnerLaw _ horders h
    · split
      · exact h.congr rfl rfl rfl
      · split
        · exact h
        · split
          · exact moveLeg_partnerLaw _ horders h
          · exact moveLeg_partnerLaw _ (horders.of_sub rfl) (h.congr rfl rfl rfl)

theorem headerWritten_partnerLaw (horders : OrdersLaw s) (h : PartnerLaw s) : PartnerLaw (headerWritten s) := by
  unfold headerWritten
  dsimp only
  split
  · exact legEvaluation_partnerLaw (horders.of_sub rfl) (h.congr rfl rfl rfl)
  · split
    · exact legEvaluation_partnerLaw (horders.of_sub rfl) (h.congr rfl rfl rfl)
    · exact legEvaluation_partnerLaw horders h

/-- A voyage start keeps the zone and the tables. -/
theorem voyageStart_partnerLaw (h : PartnerLaw s) : PartnerLaw (voyageStart s) :=
  h.of_descends (voyageStart_descends s) (fun hr => hr.partner) (by rw [voyageStart_rtk])
    (by rw [voyageStart_touches s .tbl (by decide)])

theorem takeOrigin_partnerLaw (horders : OrdersLaw s) (h : PartnerLaw s) : PartnerLaw (takeOrigin s) :=
  legEvaluation_partnerLaw (voyageStart_ordersLaw horders) (voyageStart_partnerLaw h)

/-- The rows of the PARTNER table but the one written. -/
theorem writeRow_partnerRow_ne (table : TableId) (i j : Nat) (bs : List Byte) (s : State) (h : table = .partner → j ≠ i) :
    State.partnerRow { s with tbl := writeRow table i bs s.tbl } j = s.partnerRow j := by
  cases table with
  | partner => simp [State.partnerRow, writeRow, List.getD_eq_getElem?_getD, List.getElem?_set_ne (h rfl).symm]
  | route => cases i <;> rfl
  | _ => rfl

theorem notice_partnerLaw (table : TableId) (i : Nat) (bs : List Byte) (horders : OrdersLaw s) (h : PartnerLaw s) :
    PartnerLaw (notice table i { s with tbl := writeRow table i bs s.tbl }) := by
  have hwritten : table ≠ .partner → PartnerLaw { s with tbl := writeRow table i bs s.tbl } := fun hne => by
    rw [PartnerLaw, State.forall_opened_iff] at h ⊢
    intro j e he
    rw [writeRow_partnerRow_ne table i _ bs s fun heq => absurd heq hne]
    exact h j e he
  cases table with
  | zone =>
    simp only [notice]
    split
    · exact (hwritten nofun).congr rfl rfl rfl
    · exact hwritten nofun
  | tariff => exact hwritten nofun
  | partner =>
    refine recheckRow_partnerLaw i (horders.of_sub rfl) fun j e he hrow => ?_
    rw [writeRow_partnerRow_ne .partner i _ bs s fun _ => hrow]
    exact State.forall_opened_iff.1 h j e he
  | route =>
    cases i with
    | zero =>
      have hheader := headerWritten_partnerLaw
        (s := { s with tbl := writeRow .route 0 bs s.tbl }) (horders.of_sub rfl) (hwritten nofun)
      exact hheader.aged ((aged_shared _).evaluate (.aged_refl _)) (evaluate_touches _)
    | succ j => exact legEvaluation_partnerLaw (horders.of_sub rfl) (hwritten nofun)
  | link => exact (hwritten nofun).aged ((aged_shared _).evaluate (.aged_refl _)) (evaluate_touches _)
  | silence =>
    exact (hwritten nofun).of_descends ((aged_shared _).evaluateSilence (.aged_refl _)) (fun ha => ha.partner)
      (by rw [notice, evaluateSilence_rtk]) (by rw [notice, evaluateSilence_touches _ .tbl (by decide)])

theorem takeTableData_partnerLaw (n : Nat) (bs : List Byte) (horders : OrdersLaw s) (h : PartnerLaw s) :
    PartnerLaw (takeTableData n bs s) := by
  unfold takeTableData; split
  · exact h.congr rfl rfl rfl
  · split
    · exact (notice_partnerLaw _ _ bs horders h).congr rfl rfl rfl
    · exact h.congr rfl rfl rfl

theorem placeEntry_partnerLaw (i key partner : Nat) (grant : Services) (h : PartnerLaw s) (hfree : s.firstFree = some i)
    (hpass : (s.partnerRow partner).fails s.rtk.zone = false) : PartnerLaw (placeEntry i key partner grant s) := by
  rw [PartnerLaw, State.forall_opened_iff] at h ⊢
  intro j e he
  rw [placeEntry_slot i key partner grant hfree] at he
  split at he
  · cases he
    exact hpass
  · exact h j e he

end

theorem partnerLaw_kept : KeptByParts [.sub, .rtk, .tbl] OrdersLaw PartnerLaw where
  frame hsame h := h.congr (by rw [hsame .sub (by decide)]) (by rw [hsame .rtk (by decide)]) (by rw [hsame .tbl (by decide)])
  powerOn _ _ _ _ := partnerLaw_of_shut fun i => by rw [reset_slot rfl i]; rfl
  restartCold b s _ _ := by
    have hcold : PartnerLaw (coldBlocks b s) := partnerLaw_of_shut fun i => by rw [reset_slot rfl i]; rfl
    exact (hcold.aged ((aged_shared _).restartSlc (.aged_refl _)) (restartSlc_touches _)).aged
      ((aged_shared _).restartPrc (.aged_refl _)) (restartPrc_touches _)
  restartWarm b s horders _ := by
    have hwarm : PartnerLaw (warmBlocks b s) := partnerLaw_of_shut (warmBlocks_closed b horders).1
    exact (hwarm.aged ((aged_shared _).restartSlc (.aged_refl _)) (restartSlc_touches _)).aged
      ((aged_shared _).restartPrc (.aged_refl _)) (restartPrc_touches _)
  endWindow := .inr fun n s _ h => by
    unfold endWindow; split
    · exact h
    · split
      · exact h.congr rfl rfl rfl
      · exact h
  takeMark := .inr fun leg _ horders h => takeMark_partnerLaw leg horders h
  takeOrigin := .inr fun _ horders h => takeOrigin_partnerLaw horders h
  takeClaim := .inr fun n k s _ h => h.unclaimed ((unclaimed_shared s).takeClaim n k (.unclaimed_refl s)
    (fun m _ hu => offerRelease_descends m hu) fun _ _ hu => hu) (takeClaim_touches n k s)
  takeRelease := .inr fun m s _ h => takeRelease_keeps m h
    (fun i => h.aged (mergeInto_descends i m (.aged_refl s)) (mergeInto_touches i m s)) (h.congr rfl rfl rfl)
  hearCarrying := .inr fun c hold s _ h =>
    h.aged ((aged_shared s).hearCarrying c hold (.aged_refl s)) (hearCarrying_touches c hold s)
  takeTableOpen := .inr fun n m s _ h => by
    unfold takeTableOpen; split
    · exact h.congr rfl rfl rfl
    · split
      · exact h.congr rfl rfl rfl
      · exact h.congr rfl rfl rfl
  takeTableData := .inr fun n bs _ horders h => takeTableData_partnerLaw n bs horders h
  sending := .inr fun q s _ h _ => PartnerLaw.unclaimed (s := { s with dbi := { s.dbi with onLine := none } })
    (h.congr rfl rfl rfl) (takeSending_descends q (.unclaimed_refl _)) (takeSending_touches q _)
  beaconTime := .inr fun s _ h => h.aged ((aged_shared s).beaconTime (.aged_refl s)) (beaconTime_touches s)
  leaveStarting := .inr fun s _ h _ _ =>
    h.aged ((aged_shared s).leaveStarting (.aged_refl s)) (leaveStarting_touches s)
  slipFlagExpired := .inr fun s _ h => by
    unfold slipFlagExpired; split
    · exact h.congr rfl rfl rfl
    · exact h
  orphanExpired := .inr fun s _ h => h.aged ((aged_shared s).orphanExpired (.aged_refl s)) (orphanExpired_touches s)
  attach := .inr fun k home v s _ h => attach_keeps k home v h (fun d u hu => hu.congr rfl rfl rfl)
    (fun cause quiet i u hu => hu.aged ((aged_shared u).closeSlot cause quiet i (.aged_refl u))
      (closeSlot_touches cause quiet i u))
    fun i partner grant u hu hfree hok => by
      have hplaced := placeEntry_partnerLaw i k partner grant hu hfree hok.passes
      rw [admitInto_eq]
      exact hplaced.unclaimed (queueClaim_descends k ((Descends.unclaimed_refl _).of_slots rfl))
        ((queueRadio_touches _ _).comp (queueClaim_touches k _) (cs := [.rch, .dbi, .hov, .sub]))
  takeDetach := .inr fun k s _ h => h.aged ((aged_shared s).takeDetach k (.aged_refl s)) (takeDetach_touches k s)
  takeUsage := .inr fun k data voice s _ h => by
    refine h.aged ?_ (takeUsage_touches k data voice s)
    unfold takeUsage; split
    · exact .aged_refl s
    · exact (aged_shared s).usageChecks _ (Descends.updateEntry (.aged_refl s) _ _ (usage_aged _ _))
  takeHealth := .inr fun s _ h => h.aged ((aged_shared s).takeHealth (.aged_refl s)) (takeHealth_touches s)

/-- Settles O55: a zone change and a write of a PARTNER row re-check the entries that they may fail, an admission checks its
row first, and what else there is leaves row and zone alone. -/
theorem stepKeepsPartnersInTheirZones : Obligations.StepKeepsPartnersInTheirZones :=
  partnerLaw_kept.step ordersLaw_before fun _ _ h => h

end Sys2Proof.Machine
end

section
/-! The serving states, their timers, and listen-only stations (R21, R95, R125, R128, R136, R141, R174). First what each
operation on the roster and the cover set leaves in the coverage block, said once. -/

-- One theorem after another: all at once take more threads than the check's memory holds.
set_option Elab.async false

namespace Sys2Proof.Machine

/-! ## Laws kept along a leg evaluation and a row write -/

/-- A law that the parts of a leg evaluation and of a row's notice keep. -/
structure KeptByRoute (P : State → Prop) : Prop where
  route : ∀ x {s : State}, P s → P { s with rtk := x }
  tables : ∀ x {s : State}, P s → P { s with tbl := x }
  identity : ∀ {s}, P s → P (sendIdentity s)
  changeZone : ∀ zone {s}, P s → P (changeZone zone s)
  silenceChanged : ∀ silent {s}, P s → P (silenceChanged silent s)
  evaluate : ∀ {s}, P s → P (evaluate s)
  recheckRow : ∀ row {s}, P s → P (recheckRow row s)

namespace KeptByRoute
variable {P : State → Prop} (hP : KeptByRoute P)
include hP

theorem legEvaluation {s : State} (h : P s) : P (legEvaluation s) := by
  unfold Machine.legEvaluation
  extract_lets s1 s2
  have h1 : P s1 := by
    simp only [s1]; split
    · exact h
    · exact hP.changeZone _ h
  have h2 : P s2 := by
    simp only [s2]; split
    · exact h1
    · exact hP.silenceChanged _ h1
  split
  · exact h2
  · exact hP.evaluate (hP.route _ h2)

theorem moveLeg (leg : Nat) {s : State} (h : P s) : P (moveLeg leg s) := by
  unfold Machine.moveLeg; split
  · exact h
  · exact hP.legEvaluation (hP.route _ h)

theorem takeMark (leg : Nat) {s : State} (h : P s) : P (takeMark leg s) := by
  unfold Machine.takeMark; split
  · exact h
  · split
    · exact hP.moveLeg _ h
    · split
      · exact hP.route _ h
      · split
        · exact h
        · split
          · exact hP.moveLeg _ h
          · exact hP.moveLeg _ (hP.route _ h)

theorem headerWritten {s : State} (h : P s) : P (headerWritten s) := by
  unfold Machine.headerWritten
  dsimp only
  split
  · exact hP.legEvaluation (hP.route _ (hP.route _ h))
  · split
    · exact hP.legEvaluation (hP.route _ (hP.route _ h))
    · exact hP.legEvaluation h

theorem notice (table : TableId) (i : Nat) {s : State} (h : P s) : P (notice table i s) := by
  cases table with
  | zone =>
    simp only [Machine.notice]
    split
    · exact hP.identity h
    · exact h
  | tariff => exact h
  | partner => exact hP.recheckRow _ h
  | route =>
    cases i with
    | zero => exact hP.evaluate (hP.headerWritten h)
    | succ j => exact hP.legEvaluation h
  | link => exact hP.evaluate h
  | silence =>
    simp only [Machine.notice, evaluateSilence]
    split
    · exact h
    · exact hP.silenceChanged _ h

theorem takeTableData (n : Nat) (bs : List Byte) {s : State} (h : P s) : P (takeTableData n bs s) := by
  unfold Machine.takeTableData; split
  · exact hP.tables _ h
  · split
    · exact hP.tables _ (hP.notice _ _ (hP.tables _ h))
    · exact hP.tables _ h

end KeptByRoute

/-! ## The coverage block after each of its operations -/

/-- The cover set after the cover decision of an entry (R133, R134). -/
def coverAfter (e : Peer) (servingBeacon : Bool) (now : Nat) (p : Prc) : List CoverMember :=
  if !e.neighbour then p.cover
  else if p.cover.any (fun m => m.station == e.station) then
    if e.failed then p.cover.map (fun m => if m.station = e.station then { m with holdUntil := none } else m)
    else if p.cover.any (fun m => m.station == e.station && m.holdUntil.isSome) then p.cover
    else if servingBeacon then
      p.cover.map (fun m => if m.station = e.station then { m with holdUntil := some (now + 5000) } else m)
    else p.cover.filter (fun m => m.station != e.station)
  else if p.serving = .serving && e.failed then p.cover ++ [⟨e.station, none⟩]
  else p.cover

section
variable (s : State)

theorem coverDecision_prc (e : Peer) (servingBeacon : Bool) :
    (coverDecision e servingBeacon s).prc = { s.prc with cover := coverAfter e servingBeacon s.timebase s.prc } := by
  unfold coverDecision coverAfter State.covers State.holdRuns
  split
  · rfl
  · split
    · split
      · rfl
      · split
        · rfl
        · split
          · rfl
          · rfl
    · split
      · rfl
      · rfl

/-- A change of a roster entry writes it and brings about its cover decision. -/
theorem changePeer_prc (old new : Peer) (viaBeacon servingBeacon : Bool) :
    (changePeer old new viaBeacon servingBeacon s).prc = { s.prc with
      roster := s.prc.roster.map (fun x => if x.station = new.station then new else x)
      cover := if viaBeacon || decide (old.state ≠ new.state) then coverAfter new servingBeacon s.timebase s.prc
        else s.prc.cover } := by
  unfold changePeer
  extract_lets s1 s2 s3
  have h2 : Touches [.slc, .tch, .dbi, .rch] s1 s2 := .ite _ (clearViewOf_touches _ _) (.refl _ _)
  have h3 : Touches [.slc, .tch, .dbi, .rch] s1 s3 := h2.comp (Touches.ite _ (evaluateStandby_touches s2) (.refl _ _))
  have hprc : s3.prc = { s.prc with
      roster := s.prc.roster.map (fun x => if x.station = new.station then new else x) } := h3 .prc (by decide)
  have hnow : s3.timebase = s.timebase := h3 .timebase (by decide)
  split
  · rw [coverDecision_prc, hprc, hnow]
    rfl
  · rw [hprc]

/-- No station joins the cover set at a decision outside SERVING. -/
theorem coverAfter_eq_nil {e : Peer} {servingBeacon : Bool} {now : Nat} {p : Prc} (hcover : p.cover = [])
    (hserving : p.serving ≠ .serving) : coverAfter e servingBeacon now p = [] := by
  simp [coverAfter, hcover, hserving]

/-- A change of a roster entry moves the roster and the cover set alone, and outside SERVING no empty cover set. -/
theorem changePeer_members (old new : Peer) (viaBeacon servingBeacon : Bool) :
    ∃ r c, (changePeer old new viaBeacon servingBeacon s).prc = { s.prc with roster := r, cover := c } ∧
      (s.prc.serving ≠ .serving → s.prc.cover = [] → c = []) := by
  refine ⟨_, _, changePeer_prc s old new viaBeacon servingBeacon, fun hserving hcover => ?_⟩
  split
  · exact coverAfter_eq_nil hcover hserving
  · exact hcover

theorem heardFrom_members (n : Nat) (m : Option BeaconMsg) :
    ∃ r c, (heardFrom n m s).prc = { s.prc with roster := r, cover := c } ∧
      (s.prc.serving ≠ .serving → s.prc.cover = [] → c = []) := by
  unfold heardFrom; split
  · exact ⟨_, _, rfl, fun _ h => h⟩
  · split
    · exact ⟨_, _, rfl, fun _ h => h⟩
    · exact changePeer_members s _ _ _ _

theorem peerQuiet_members (p : Nat) :
    ∃ r c, (peerQuiet p s).prc = { s.prc with roster := r, cover := c } ∧
      (s.prc.serving ≠ .serving → s.prc.cover = [] → c = []) := by
  unfold peerQuiet; split
  · exact ⟨_, _, rfl, fun _ h => h⟩
  · split
    · exact changePeer_members s _ _ _ _
    · exact ⟨_, _, rfl, fun _ h => h⟩

theorem peerLost_members (p : Nat) :
    ∃ r c, (peerLost p s).prc = { s.prc with roster := r, cover := c } ∧
      (s.prc.serving ≠ .serving → s.prc.cover = [] → c = []) := by
  unfold peerLost; split
  · exact ⟨_, _, rfl, fun _ h => h⟩
  · split
    · exact changePeer_members s _ _ _ _
    · exact ⟨_, _, rfl, fun _ h => h⟩

theorem returnHoldExpired_members (p : Nat) :
    ∃ c, (returnHoldExpired p s).prc = { s.prc with cover := c } ∧ (s.prc.cover = [] → c = []) := by
  unfold returnHoldExpired; split
  · exact ⟨_, removeCover_prc p s, fun h => by rw [h]; rfl⟩
  · exact ⟨_, rfl, id⟩

/-- The cover decision of a station that has become SERVING. -/
theorem coverIfServing_prc : ∃ c, (coverIfServing s).prc = { s.prc with cover := c } ∧
    (s.prc.serving ≠ .serving → c = s.prc.cover) := by
  unfold coverIfServing; split
  · next h =>
    obtain ⟨c, hc⟩ := coverFailed_prc s
    exact ⟨c, hc, fun hne => absurd h hne⟩
  · exact ⟨_, rfl, fun _ => rfl⟩

theorem enterDark_prc : (enterDark s).prc = { s.prc with
    serving := .dark, cover := [], orphanAt := some (s.timebase + 30000) } := by
  have hcover := emptyCover_prc (setServing .dark s)
  have hnow : (emptyCover (setServing .dark s)).timebase = s.timebase := emptyCover_touches _ .timebase (by decide)
  simp only [enterDark, hcover, hnow]
  rfl

/-- The state that a wake or the end of a listen period chooses (R97, R127). -/
theorem chooseState_prc : (chooseState s).prc = { s.prc with
    serving := if s.unhealthy then .dark else .serving
    orphanAt := if s.unhealthy then some (s.timebase + 30000) else s.prc.orphanAt } := by
  unfold chooseState
  split
  · rfl
  · rfl

/-- A wake: the dwell and the pending wake are over, and the state is chosen. -/
theorem wake_prc : ∃ c, (wake s).prc = { s.prc with
    serving := if s.unhealthy then .dark else .serving
    orphanAt := if s.unhealthy then some (s.timebase + 30000) else s.prc.orphanAt
    cover := c, dwellUntil := none, pendingWake := false } ∧ (s.unhealthy = true → c = s.prc.cover) := by
  unfold wake
  extract_lets s1 _ s2
  have hsick : s2.unhealthy = s.unhealthy := by
    simp only [State.unhealthy, s2, s1, sendIdentity, queueRadio_rch, Chan.enqueue_up]
    rfl
  obtain ⟨c, hc, hsame⟩ := coverIfServing_prc (chooseState s2)
  have hchosen := chooseState_prc s2
  rw [hsick] at hchosen
  refine ⟨c, by rw [hc, hchosen]; rfl, fun h => ?_⟩
  rw [hsame (by rw [hchosen, h]; nofun), hchosen]
  rfl

/-- The state that the end of the listen period enters, before its directives and its beacon time (R127). -/
def leftStarting : State :=
  if s.rtk.silent then enterDormant { s with prc := { s.prc with listenUntil := none } }
  else chooseState (queueRadio .wake { s with prc := { s.prc with listenUntil := none } })

/-- The coverage block after the listen period: the state entered, the beacon schedule, and the cover decision. -/
theorem leaveStarting_prc : ∃ c, (leaveStarting s).prc = { (leftStarting s).prc with
    cover := c, nextBeacon := some (s.timebase + 250) } ∧
      ((leftStarting s).prc.serving ≠ .serving → c = (leftStarting s).prc.cover) := by
  unfold leaveStarting
  extract_lets _ s1 s2 s3 s4 s5
  have h2 : Touches [.sub, .hov, .bsd, .prc, .rch] s1 s2 :=
    .ite _ (enterDormant_touches _) ((queueRadio_touches _ _).comp (chooseState_touches _))
  have hnow : s4.timebase = s.timebase := h2 .timebase (by decide)
  have h5 : (evaluate s5).prc = { s2.prc with nextBeacon := some (s4.timebase + 250) } :=
    (evaluate_touches s5 .prc (by decide)).trans (beaconAt_touches _ .prc (by decide))
  obtain ⟨c, hc, hsame⟩ := coverIfServing_prc (evaluate s5)
  rw [h5, hnow] at hc hsame
  exact ⟨c, hc, hsame⟩

end

/-! ## The law of the serving states, told of the coverage block -/

/-- What the coverage block holds in each serving state; `empty` says that no entry is open. -/
structure Prc.Sound (own : Nat) (empty : Prop) (p : Prc) : Prop where
  entries : p.serving = .starting ∨ p.serving = .dormant → empty
  cover   : p.serving ≠ .serving → p.cover = []
  listen  : p.listenUntil.isSome = true → p.serving = .starting
  listens : own ≠ 0 → p.serving = .starting → p.listenUntil.isSome = true
  dwell   : p.dwellUntil.isSome = true → p.serving = .dormant
  wake    : p.pendingWake = true → p.serving = .dormant
  orphan  : p.orphanAt.isSome = true → p.serving = .dark
  beacon  : p.nextBeacon.isSome = true ↔ p.serving ≠ .starting

theorem eq_none_of_isSome {α : Type} {o : Option α} {q : Prop} (h : o.isSome = true → q) (hq : ¬ q) : o = none := by
  cases ho : o with
  | none => rfl
  | some x => exact absurd (h (by rw [ho]; rfl)) hq

section
variable {own : Nat} {empty : Prop} {p : Prc} (h : p.Sound own empty)
include h

theorem Prc.Sound.listen_none (hstate : p.serving ≠ .starting) : p.listenUntil = none := eq_none_of_isSome h.listen hstate
theorem Prc.Sound.dwell_none (hstate : p.serving ≠ .dormant) : p.dwellUntil = none := eq_none_of_isSome h.dwell hstate
theorem Prc.Sound.orphan_none (hstate : p.serving ≠ .dark) : p.orphanAt = none := eq_none_of_isSome h.orphan hstate
theorem Prc.Sound.wake_false (hstate : p.serving ≠ .dormant) : p.pendingWake = false :=
  Bool.eq_false_iff.2 fun hw => hstate (h.wake hw)

end

/-- The laws of the serving states and of their timers. -/
def ServingSound (s : State) : Prop := s.prc.Sound s.own (s.sub.attachOrder = [])

theorem servingSound_iff {s : State} : ServingSound s ↔ ServingLaw s ∧ TimersLaw s := by
  constructor
  · rintro ⟨hentries, hcover, hlisten, hlistens, hdwell, hwake, horphan, hbeacon⟩
    exact ⟨⟨hentries, hcover⟩, hlisten, hlistens, hdwell, hwake, horphan, hbeacon⟩
  · rintro ⟨⟨hentries, hcover⟩, hlisten, hlistens, hdwell, hwake, horphan, hbeacon⟩
    exact ⟨hentries, hcover, hlisten, hlistens, hdwell, hwake, horphan, hbeacon⟩

/-- Where no entry was open, none is. -/
def NoneOpens (s t : State) : Prop := s.sub.attachOrder = [] → t.sub.attachOrder = []

theorem NoneOpens.refl (s : State) : NoneOpens s s := id

theorem NoneOpens.of_attach {s t u : State} (h : NoneOpens s t) (hu : u.sub.attachOrder = t.sub.attachOrder) :
    NoneOpens s u := fun hs => hu.trans (h hs)

theorem NoneOpens.of_sameShape {s t u : State} (h : NoneOpens s t) (hu : SameShape t u) : NoneOpens s u :=
  h.of_attach hu.attach

theorem noneOpens_shared (s : State) : KeptByShared (NoneOpens s) where
  frame ht h := h.of_attach (by rw [ht .sub (by decide)])
  malformed h := h
  queueRadio _ _ h := h
  queueTerminal _ _ h := h
  restartSilence _ _ h := h
  terminalPin _ _ h := h
  announce a t h := h.of_attach (by rw [announce_touches a t .sub (by decide)])
  offerBeacon {t} h := h.of_attach (by rw [offerBeacon_touches t .sub (by decide)])
  rateSlot _ _ _ _ _ _ h := h.of_sameShape (rateSlot_sameShape _ _ _ _ _ _)
  offerInterval _ _ _ h := h.of_sameShape (offerInterval_sameShape _ _ _)
  finishClose cause quiet i t h hs := by
    by_cases hopen : ∃ e, t.slot i = .opened e
    · obtain ⟨e, he⟩ := hopen
      rw [(finishClose_orders cause quiet he).2.2.1, h hs]
      rfl
    · unfold finishClose; split
      · next e he => exact absurd ⟨e, he⟩ hopen
      · exact h hs

section
variable {s t : State}

/-- The law after what opens no entry and leaves the coverage block. -/
theorem ServingSound.of_noneOpens (h : ServingSound s) (hnone : NoneOpens s t) (hprc : t.prc = s.prc)
    (hown : t.own = s.own) : ServingSound t := by
  rw [ServingSound, hprc, hown]
  exact { h with entries := fun hstate => hnone (h.entries hstate) }

theorem ServingSound.frame {bs : List Block} (h : ServingSound s) (hnone : NoneOpens s t) (ht : Touches bs s t)
    (hp : Block.prc ∉ bs := by decide) (hc : Block.cfg ∉ bs := by decide) : ServingSound t :=
  h.of_noneOpens hnone (ht .prc hp) (by rw [State.own, ht .cfg hc]; rfl)

/-- The law after a change of the roster and the cover set. -/
theorem ServingSound.members (h : ServingSound s) {r : List Peer} {c : List CoverMember}
    (hprc : t.prc = { s.prc with roster := r, cover := c }) (hc : s.prc.serving ≠ .serving → s.prc.cover = [] → c = [])
    (hsub : t.sub = s.sub) (hown : t.own = s.own) : ServingSound t := by
  rw [ServingSound, hprc, hown, hsub]
  exact { h with cover := fun hne => hc hne (h.cover hne) }

/-- Entry into DORMANT from a state past STARTING. -/
theorem enterDormant_sound (h : ServingSound s) (hstate : s.prc.serving ≠ .starting) (horders : OrdersLaw s) :
    ServingSound (enterDormant s) := by
  rw [ServingSound, enterDormant_prc, enterDormant_attachOrder horders]
  exact ⟨fun _ => rfl, fun _ => rfl, by simp [h.listen_none hstate], by simp, by simp, by simp, by simp,
    by simp [h.beacon.2 hstate]⟩

theorem wake_sound (h : ServingSound s) (hdormant : s.prc.serving = .dormant) : ServingSound (wake s) := by
  obtain ⟨c, hprc, hc⟩ := wake_prc s
  have hcover : s.prc.cover = [] := h.cover (by simp [hdormant])
  have hlisten := h.listen_none (by simp [hdormant])
  have horphan := h.orphan_none (by simp [hdormant])
  have hbeacon := h.beacon.2 (by simp [hdormant])
  rw [ServingSound, hprc]
  cases hsick : s.unhealthy with
  | true =>
    rw [hc hsick, hcover]
    exact ⟨by simp, by simp, by simp [hlisten], by simp, by simp, by simp, by simp, by simp [hbeacon]⟩
  | false =>
    exact ⟨by simp, by simp, by simp [hlisten], by simp, by simp, by simp, by simp [horphan], by simp [hbeacon]⟩

theorem silenceChanged_sound (silent : Bool) (horders : OrdersLaw s) (h : ServingSound s) :
    ServingSound (silenceChanged silent s) := by
  unfold silenceChanged
  extract_lets _ s1
  have h1 : ServingSound s1 := h
  have hdormant : s.prc.serving ≠ .starting → ServingSound (enterDormant s1) := fun hstate =>
    enterDormant_sound h1 hstate horders
  split
  · split
    · next hstate => exact hdormant (by simp [hstate])
    · next hstate => exact hdormant (by simp [hstate])
    · exact { h1 with wake := nofun }
    · exact h1
  · split
    · next hstate =>
      split
      · exact wake_sound h1 hstate
      · exact { h1 with wake := fun _ => hstate }
    all_goals exact h1

/-- The orders and the serving states are kept together by the parts of a leg evaluation and a row write. -/
theorem soundOrders_route : KeptByRoute fun s => OrdersLaw s ∧ ServingSound s where
  route _ _ h := h
  tables _ _ h := h
  identity h := h
  changeZone zone s h := ⟨ordersLaw_shared.changeZone zone h.1,
    h.2.frame ((noneOpens_shared s).changeZone zone (.refl s)) (changeZone_touches zone s)⟩
  silenceChanged silent _ h := ⟨ordersLaw_shared.silenceChanged silent h.1, silenceChanged_sound silent h.1 h.2⟩
  evaluate {s} h := ⟨ordersLaw_shared.evaluate h.1,
    h.2.frame ((noneOpens_shared s).evaluate (.refl s)) (evaluate_touches s)⟩
  recheckRow row s h := ⟨ordersLaw_shared.recheckRow row h.1,
    h.2.frame ((noneOpens_shared s).recheckRow row (.refl s)) (recheckRow_touches row s)⟩

theorem voyageStart_sound (h : ServingSound s) : ServingSound (voyageStart s) := by
  refine h.frame ?_ (voyageStart_touches s)
  unfold voyageStart
  extract_lets s1 _ s2 _ s3 s4
  have h1 : NoneOpens s s1 := (noneOpens_shared s).ratingEvent _ _ _ (.refl s)
  have h3 : SameShape s1 s3 := sameShape_zeroK rfl
  exact ((h1.of_sameShape h3).of_sameShape (unbarAll_sameShape s3.sub.attachOrder s3)).of_attach rfl

/-- The end of the listen period: the beacon schedule runs, and no timer but the one of the state entered. -/
theorem leaveStarting_sound (h : ServingSound s) (hstate : s.prc.serving = .starting) :
    ServingSound (leaveStarting s) := by
  have hnone := (noneOpens_shared s).leaveStarting (.refl s) (h.entries (.inl hstate))
  have hdwell := h.dwell_none (by simp [hstate])
  have hwake := h.wake_false (by simp [hstate])
  have horphan := h.orphan_none (by simp [hstate])
  have hcover : s.prc.cover = [] := h.cover (by simp [hstate])
  obtain ⟨c, hprc, hc⟩ := leaveStarting_prc s
  rw [ServingSound, hprc]
  unfold leftStarting at hc ⊢
  split at hc
  · next hsilent =>
    rw [if_pos hsilent]
    rw [enterDormant_prc] at hc ⊢
    exact ⟨fun _ => hnone, fun hne => hc hne, by simp, by simp, by simp, by simp, by simp, by simp⟩
  · next hloud =>
    rw [if_neg hloud]
    rw [chooseState_prc] at hc ⊢
    cases hsick : (queueRadio .wake { s with prc := { s.prc with listenUntil := none } }).unhealthy with
    | true =>
      simp only [hsick, if_true, queueRadio_prc] at hc ⊢
      exact ⟨fun _ => hnone, fun hne => (hc hne).trans hcover, by simp, by simp, by simp [hdwell], by simp [hwake],
        by simp, by simp⟩
    | false =>
      simp only [hsick, queueRadio_prc] at hc ⊢
      exact ⟨fun _ => hnone, by simp, by simp, by simp, by simp [hdwell], by simp [hwake], by simp [horphan], by simp⟩

theorem takeHealth_sound (horders : OrdersLaw s) (h : ServingSound s) : ServingSound (takeHealth s) := by
  by_cases hdark : s.prc.serving = .dark
  · have h1 : ServingSound (stopOrphanTimer (setHealthy s)) := { h with orphan := nofun }
    rw [takeHealth_of_dark hdark]
    split
    · exact enterDormant_sound h1 (show s.prc.serving ≠ _ by simp [hdark]) horders
    · obtain ⟨c, hc⟩ := coverFailed_prc (setServing .serving (stopOrphanTimer (setHealthy s)))
      have hlisten := h1.listen_none (show s.prc.serving ≠ _ by simp [hdark])
      have hdwell := h1.dwell_none (show s.prc.serving ≠ _ by simp [hdark])
      have hwake := h1.wake_false (show s.prc.serving ≠ _ by simp [hdark])
      have hbeacon := h1.beacon.2 (show s.prc.serving ≠ _ by simp [hdark])
      rw [ServingSound, hc]
      exact ⟨by simp [setServing], by simp [setServing], by simp [setServing, hlisten], by simp [setServing],
        by simp [setServing, hdwell], by simp [setServing, hwake], by simp [setServing, stopOrphanTimer],
        by simp [setServing, hbeacon]⟩
  · rw [takeHealth_of_not_dark hdark]
    exact { h with }

theorem enterDark_sound (h : ServingSound s) (hstate : s.prc.serving = .serving) : ServingSound (enterDark s) := by
  have hlisten := h.listen_none (by simp [hstate])
  have hdwell := h.dwell_none (by simp [hstate])
  have hwake := h.wake_false (by simp [hstate])
  have hbeacon := h.beacon.2 (by simp [hstate])
  rw [ServingSound, enterDark_prc]
  exact ⟨by simp, fun _ => rfl, by simp [hlisten], by simp, by simp [hdwell], by simp [hwake], by simp, by simp [hbeacon]⟩

theorem reset_sound {now own : Nat} {neighbours : List Nat} (hprc : t.prc = .reset now own neighbours)
    (hown : t.own = own) (hempty : t.sub.attachOrder = []) : ServingSound t := by
  rw [ServingSound, hprc, hown]
  refine ⟨fun _ => hempty, fun _ => rfl, fun _ => rfl, fun hne _ => ?_, nofun, nofun, nofun, iff_of_false nofun (by simp [Prc.reset])⟩
  simp [Prc.reset, hne]

end

end Sys2Proof.Machine
end

section
/-! The laws of the serving states and of listen-only stations, over the parts of the commands. -/

-- One theorem after another: all at once take more threads than the check's memory holds.
set_option Elab.async false

namespace Sys2Proof.Machine

/-! ## The serving states -/

theorem restartPrc_prc (s : State) : (restartPrc s).prc = .reset s.timebase s.own s.cfg.neighbours := by
  have hrest := emptyCover_touches s
  unfold restartPrc
  dsimp only
  rw [queueRadio_timebase, hrest .timebase (by decide), State.own, State.own, queueRadio_cfg, hrest .cfg (by decide)]

/-- A restart's last step: STARTING, every timer but the listen timer off. -/
theorem restartPrc_sound {s : State} (hempty : s.sub.attachOrder = []) : ServingSound (restartPrc s) :=
  reset_sound (restartPrc_prc s) (by rw [State.own, restartPrc_touches s .cfg (by decide)]; rfl)
    (by rw [restartPrc_touches s .sub (by decide)]; exact hempty)

theorem takeSending_noneOpens (q : TxQueue) (s : State) : NoneOpens s (takeSending q s) := by
  cases q with
  | class1 =>
    simp only [takeSending, class1Sent]; split
    · exact .refl s
    · split
      · exact (NoneOpens.refl s).of_sameShape (forgetClaim_sameShape _ (.of_sub rfl))
      · exact .refl s
  | link => exact .refl s
  | beacon => exact .refl s
  | bill =>
    simp only [takeSending]; split
    · exact .refl s
    · refine (NoneOpens.refl s).of_attach ?_
      rw [billSent_eq, continueDrain_touches _ .sub (by decide), storeRoom, moveWhileRoom_attachOrder]
      rfl
  | drainEnd =>
    simp only [takeSending]; split
    · exact .refl s
    · exact (NoneOpens.refl s).of_attach (by rw [drainEndSent_touches _ .sub (by decide)])
  | report => exact .refl s
where
  moveWhileRoom_attachOrder (l : List Nat) (s : State) : (moveWhileRoom l s).sub.attachOrder = s.sub.attachOrder := by
    induction l generalizing s with
    | nil => rfl
    | cons i rest ih =>
      unfold moveWhileRoom; split
      · rw [ih]
        unfold moveClosing; dsimp only; split <;> rfl
      · rfl

theorem servingSound_kept : KeptByParts [.sub, .prc, .cfg] OrdersLaw ServingSound where
  frame {s t} hsame h := h.of_noneOpens ((NoneOpens.refl s).of_attach (by rw [hsame .sub (by decide)]))
    (hsame .prc (by decide)) (by rw [State.own, hsame .cfg (by decide)]; rfl)
  powerOn p s _ _ := reset_sound rfl rfl rfl
  restartCold b s _ _ := restartPrc_sound (by rw [restartSlc_touches _ .sub (by decide)]; rfl)
  restartWarm b s horders _ := restartPrc_sound
    (by rw [restartSlc_touches _ .sub (by decide)]; exact (warmBlocks_closed b horders).2.1)
  heardFrom := .inr fun n m s _ h => by
    obtain ⟨r, c, hprc, hc⟩ := heardFrom_members s n m
    have ht := heardFrom_touches n m s
    exact h.members hprc hc (ht .sub (by decide)) (by rw [State.own, ht .cfg (by decide)]; rfl)
  malformed := .inr fun s _ h => h.of_noneOpens (.refl s) rfl rfl
  takeMark := .inr fun leg _ horders h => (soundOrders_route.takeMark leg ⟨horders, h⟩).2
  takeOrigin := .inr fun _ horders h => (soundOrders_route.legEvaluation ⟨voyageStart_ordersLaw horders, voyageStart_sound h⟩).2
  takeClaim := .inr fun n k s _ h => h.frame ((noneOpens_shared s).takeClaim n k (.refl s)
    (fun m _ hu => hu.of_sameShape (offerRelease_sameShape m _)) fun _ _ hu => hu) (takeClaim_touches n k s)
  takeRelease := .inr fun m s _ h => takeRelease_keeps m h
    (fun i => h.frame ((NoneOpens.refl s).of_sameShape (mergeInto_sameShape i m s)) (mergeInto_touches i m s)) h
  hearCarrying := .inr fun c hold s _ h =>
    h.frame ((noneOpens_shared s).hearCarrying c hold (.refl s)) (hearCarrying_touches c hold s)
  takeTableData := .inr fun n bs _ horders h => (soundOrders_route.takeTableData n bs ⟨horders, h⟩).2
  sending := .inr fun q s _ h _ => ServingSound.frame (s := { s with dbi := { s.dbi with onLine := none } }) h
    (takeSending_noneOpens q _) (takeSending_touches q _)
  beaconTime := .inr fun s _ h => by
    have hnone := (noneOpens_shared s).beaconTime (.refl s)
    unfold beaconTime at hnone ⊢
    split at hnone
    · exact h
    · next t ht =>
      split
      · next hstate =>
        rw [Bool.and_eq_true, bne_iff_ne] at hstate
        rw [if_pos (by simpa using hstate)] at hnone
        have hb := beaconAt_touches (scheduleBeacon t s)
        rw [ServingSound, hb .prc (by decide), State.own, hb .cfg (by decide)]
        exact { h with entries := fun hs => hnone (h.entries hs), beacon := iff_of_true rfl hstate.2 }
      · exact h
  leaveStarting := .inr fun _ _ h _ hstate => leaveStarting_sound h hstate
  dwellExpired := .inr fun s _ h => by
    unfold dwellExpired; split
    · next hdue =>
      rw [Bool.and_eq_true, decide_eq_true_eq] at hdue
      split
      · exact wake_sound h hdue.1
      · exact { h with dwell := nofun }
    · exact h
  peerQuiet := .inr fun p s _ h => by
    obtain ⟨r, c, hprc, hc⟩ := peerQuiet_members s p
    have ht := peerQuiet_touches p s
    exact h.members hprc hc (ht .sub (by decide)) (by rw [State.own, ht .cfg (by decide)]; rfl)
  peerLost := .inr fun p s _ h => by
    obtain ⟨r, c, hprc, hc⟩ := peerLost_members s p
    have ht := peerLost_touches p s
    exact h.members hprc hc (ht .sub (by decide)) (by rw [State.own, ht .cfg (by decide)]; rfl)
  returnHoldExpired := .inr fun p s _ h => by
    obtain ⟨c, hprc, hc⟩ := returnHoldExpired_members s p
    have ht := returnHoldExpired_touches p s
    exact h.members hprc (fun _ hcover => hc hcover) (ht .sub (by decide)) (by rw [State.own, ht .cfg (by decide)]; rfl)
  deadlinePassed := .inr fun s _ h => by
    unfold deadlinePassed; split
    · dsimp only
      split
      · next hserving => exact enterDark_sound (s := { s with prc := _ }) { h with } hserving
      · exact { h with }
    · exact h
  orphanExpired := .inr fun s _ h => by
    unfold orphanExpired; split
    · have hstopped : ServingSound { s with prc := { s.prc with orphanAt := none } } := { h with orphan := nofun }
      exact hstopped.frame ((noneOpens_shared _).sweep _ _ (.refl _)) (sweep_touches _ _ _)
    · exact h
  loseRadio := .inr fun s _ h => by
    unfold loseRadio; split
    · unfold radioLost; split
      · next hserving =>
        rw [Bool.and_eq_true, decide_eq_true_eq] at hserving
        exact enterDark_sound (s := { s with rch := _ }) h hserving.1
      · exact h
    · exact h
  attach := .inr fun key home v s _ h => by
    by_cases hserving : s.prc.serving = .serving
    · rw [ServingSound, attach_touches key home v s .prc (by decide), State.own,
        attach_touches key home v s .cfg (by decide)]
      exact { h with entries := fun hs => by simp [hserving] at hs }
    · have hrefused : attach key home v s = refuse key .notServing s := if_pos (by simp [hserving])
      rw [hrefused]
      exact h
  takeDetach := .inr fun k s _ h => h.frame ((noneOpens_shared s).takeDetach k (.refl s)) (takeDetach_touches k s)
  takeUsage := .inr fun k data voice s _ h => by
    refine h.frame ?_ (takeUsage_touches k data voice s)
    unfold takeUsage; split
    · exact .refl s
    · exact (noneOpens_shared s).usageChecks _ ((NoneOpens.refl s).of_sameShape (updateEntry_sameShape _ _ (.of_sub rfl)))
  takeHealth := .inr fun _ horders h => takeHealth_sound horders h
  takeHold := .inr fun s _ h => by
    unfold takeHold; split
    · exact { h with }
    · exact { h with }

/-! ## Listen-only stations -/

/-- A listen-only station queues no frame and has none on the line (R174). -/
def NoFrames (s : State) : Prop :=
  s.own = 0 → s.dbi.class1 = [] ∧ s.dbi.link = none ∧ s.dbi.linkBeside = none ∧ s.dbi.beacon = none ∧
    s.dbi.bill = none ∧ s.dbi.drainEnd = none ∧ s.dbi.reports = [] ∧ s.dbi.onLine = none

/-- A listen-only station stays STARTING, its listen timer off, and covers no one (R128). -/
def StaysStarting (s : State) : Prop :=
  s.own = 0 → s.prc.serving = .starting ∧ s.prc.listenUntil = none ∧ s.prc.cover = []

theorem listenOnlyLaw_iff {s : State} : ListenOnlyLaw s ↔ StaysStarting s ∧ NoFrames s := by
  constructor
  · intro h
    exact ⟨fun hown => have ⟨h1, h2, h3, _⟩ := h hown; ⟨h1, h2, h3⟩, fun hown => (h hown).2.2.2⟩
  · rintro ⟨hstate, hframes⟩ hown
    obtain ⟨h1, h2, h3⟩ := hstate hown
    exact ⟨h1, h2, h3, hframes hown⟩

theorem State.listenOnly_of_own_zero {s : State} (h : s.own = 0) : s.listenOnly = true := by rw [State.listenOnly, h]; rfl

section
variable {s t : State}

theorem NoFrames.congr (h : NoFrames s) (hdbi : s.own = 0 → t.dbi = s.dbi) (hown : t.own = s.own) : NoFrames t :=
  fun ht => by rw [hdbi (hown ▸ ht)]; exact h (hown ▸ ht)

theorem NoFrames.of_touches {bs : List Block} (h : NoFrames s) (ht : Touches bs s t) (hd : Block.dbi ∉ bs := by decide)
    (hc : Block.cfg ∉ bs := by decide) : NoFrames t :=
  h.congr (fun _ => ht .dbi hd) (by rw [State.own, ht .cfg hc]; rfl)

/-- A part that a listen-only station leaves its transmit queues to. -/
theorem NoFrames.guarded {bs : List Block} (h : NoFrames s) (ht : Touches bs s t)
    (hguard : s.listenOnly = true → t.dbi = s.dbi) (hc : Block.cfg ∉ bs := by decide) : NoFrames t :=
  h.congr (fun h0 => hguard (State.listenOnly_of_own_zero h0)) (by rw [State.own, ht .cfg hc]; rfl)

end

theorem noFrames_shared : KeptByShared NoFrames where
  frame ht h := h.of_touches ht
  malformed h := h
  queueRadio _ _ h := h
  queueTerminal _ _ h := h
  restartSilence _ _ h := h
  terminalPin _ _ h := h
  announce a s h := h.guarded (announce_touches a s) fun h0 => by rw [announce, offerLink, if_pos h0]
  offerBeacon {s} h := h.guarded (offerBeacon_touches s) fun h0 => by rw [offerBeacon, h0]; rfl
  rateSlot final quiet zone link i s h := h.of_touches (rateSlot_touches final quiet zone link i s)
  offerInterval cause i s h := h.of_touches (offerInterval_touches cause i s)
  finishClose cause quiet i s h := h.of_touches (finishClose_touches cause quiet i s)

theorem placeBill_listenOnly (r : Stored) {s : State} (h : s.listenOnly = true) : placeBill r s = s := if_pos h

theorem placeDrainEnd_listenOnly (m : DrainEndMsg) {s : State} (h : s.listenOnly = true) : placeDrainEnd m s = s := if_pos h

theorem offerBill_listenOnly {s : State} (h : s.listenOnly = true) : offerBill s = s := by
  unfold offerBill; split
  · exact placeBill_listenOnly _ h
  · rfl

theorem endDrain_listenOnly (status : StopStatus) (sent : Nat) {s : State} (h : s.listenOnly = true) :
    (endDrain status sent s).dbi = s.dbi := by
  have hplace := placeDrainEnd_listenOnly ⟨status, sent, s.rtk.voyage, s.bsd.tallyWord, s.bsd.tallyCount⟩
    (s := { s with bsd := { s.bsd with drain := .ending sent none } }) h
  exact (congrArg State.dbi hplace).trans rfl

theorem restartBsdWarm_noFrames {s : State} (h : NoFrames s) : NoFrames (restartBsdWarm s) := by
  refine h.guarded (restartBsdWarm_touches s) fun h0 => ?_
  unfold restartBsdWarm; split
  · rfl
  · exact endDrain_listenOnly _ _ h0
  · exact endDrain_listenOnly _ _ h0

theorem noFrames_reset {s : State} (h : s.dbi = .reset) : NoFrames s := fun _ => by
  rw [h]
  exact ⟨rfl, rfl, rfl, rfl, rfl, rfl, rfl, rfl⟩

/-- An ATTACH is refused at a listen-only station (R6). -/
theorem attach_of_listenOnly (key home : Nat) (v : Services) {s : State} (h : s.listenOnly = true) :
    attach key home v s = refuse key .notServing s := if_pos (by simp [h])

theorem noFrames_rest : KeptByRest [.dbi, .cfg] (fun _ => True) NoFrames where
  frame hsame h := h.congr (fun _ => hsame .dbi (by decide)) (by rw [State.own, hsame .cfg (by decide)]; rfl)
  powerOn _ _ _ _ := noFrames_reset rfl
  restartCold _ _ _ _ := noFrames_shared.restartPrc (noFrames_shared.restartSlc (noFrames_reset rfl))
  restartWarm b _ _ _ := noFrames_shared.restartPrc (noFrames_shared.restartSlc
    (noFrames_shared.warmBlocks b (noFrames_reset rfl) (fun _ hu => hu) (fun _ hu => hu) fun _ hu =>
      restartBsdWarm_noFrames hu))
  voyageStart s _ h := h.of_touches (voyageStart_touches s)
  takeClaim := .inr fun n k s _ h => noFrames_shared.takeClaim n k h
    (fun m u hu => hu.guarded (offerRelease_touches m u) fun h0 => by rw [offerRelease, if_pos h0]) fun _ _ hu => hu
  takeDrainRequest := .inr fun x n s _ h => by
    unfold takeDrainRequest; split
    · next hhere => exact fun h0 => absurd (hhere.1.trans (by
        rw [State.own, requestDrain_touches _ s .cfg (by decide)] at h0; exact h0)) hhere.2
    · exact h
  takeQuery := .inr fun x s _ h => by
    unfold takeQuery; split
    · next hhere => exact fun h0 => absurd (hhere.1.trans (by
        rw [State.own, offerReport_touches _ s .cfg (by decide)] at h0; exact h0)) hhere.2
    · exact h
  receiveError := .inr fun c s _ h h0 => by
    obtain ⟨h1, h2, h3, h4, h5, h6, h7, h8⟩ := h h0
    cases c <;> exact ⟨h1, h2, h3, h4, h5, h6, h7, h8⟩
  startFrame := .inr fun s _ h => h.guarded (startFrame_touches s) fun h0 => by rw [startFrame, h0]; rfl
  loseFrame := .inr fun s _ h => h.congr (fun h0 => by
    obtain ⟨-, -, -, -, -, -, -, hline⟩ := h h0
    simp [loseFrame, hline]) rfl
  loseLine := .inr fun s _ h => h.congr (fun h0 => by
    obtain ⟨-, -, -, -, -, -, -, hline⟩ := h h0
    simp [loseLine, hline]) rfl
  sending := .inr fun q s _ h hline h0 => by
    rw [State.own, takeSending_touches q _ .cfg (by decide)] at h0
    obtain ⟨-, -, -, -, -, -, -, hnone⟩ := h h0
    rw [hline] at hnone
    cases hnone
  attach := .inr fun key home v s _ h => h.guarded (attach_touches key home v s) fun h0 => by
    rw [attach_of_listenOnly key home v h0]; rfl

section
variable {s t : State}

theorem StaysStarting.congr (h : StaysStarting s) (hserving : s.prc.serving = .starting → t.prc.serving = .starting)
    (hlisten : t.prc.listenUntil = s.prc.listenUntil)
    (hcover : s.prc.serving ≠ .serving → s.prc.cover = [] → t.prc.cover = []) (hown : t.own = s.own) : StaysStarting t :=
  fun h0 => by
    obtain ⟨hstate, htimer, hempty⟩ := h (hown ▸ h0)
    exact ⟨hserving hstate, hlisten.trans htimer, hcover (by simp [hstate]) hempty⟩

/-- The law after what only changes the roster and the cover set. -/
theorem StaysStarting.members {bs : List Block} (h : StaysStarting s) {r : List Peer} {c : List CoverMember}
    (hprc : t.prc = { s.prc with roster := r, cover := c }) (hc : s.prc.serving ≠ .serving → s.prc.cover = [] → c = [])
    (ht : Touches bs s t) (hcfg : Block.cfg ∉ bs := by decide) : StaysStarting t :=
  h.congr (fun hs => by rw [hprc]; exact hs) (by rw [hprc]) (fun h1 h2 => by rw [hprc]; exact hc h1 h2)
    (by rw [State.own, ht .cfg hcfg]; rfl)

/-- The law after what leaves a STARTING station's coverage block. -/
theorem StaysStarting.idle {bs : List Block} (h : StaysStarting s) (ht : Touches bs s t)
    (hidle : s.prc.serving = .starting → t.prc = s.prc) (hcfg : Block.cfg ∉ bs := by decide) : StaysStarting t :=
  fun h0 => by
    have hown : s.own = 0 := by rw [State.own, ht .cfg hcfg] at h0; exact h0
    rw [hidle (h hown).1]
    exact h hown

theorem silenceChanged_prc_of_starting (silent : Bool) (h : s.prc.serving = .starting) :
    (silenceChanged silent s).prc = s.prc := by
  unfold silenceChanged
  extract_lets _ s1
  cases silent
  · simp [h, s1]
  · simp [h, s1]

theorem staysStarting_route : KeptByRoute StaysStarting where
  route _ _ h := h
  tables _ _ h := h
  identity h := h
  changeZone zone s h := h.idle (changeZone_touches zone s) fun _ => changeZone_touches zone s .prc (by decide)
  silenceChanged silent s h := h.idle (silenceChanged_touches silent s) (silenceChanged_prc_of_starting silent)
  evaluate {s} h := h.idle (evaluate_touches s) fun _ => evaluate_touches s .prc (by decide)
  recheckRow row s h := h.idle (recheckRow_touches row s) fun _ => recheckRow_touches row s .prc (by decide)

theorem reset_staysStarting {now own : Nat} {neighbours : List Nat} (hprc : t.prc = .reset now own neighbours)
    (hown : t.own = own) : StaysStarting t := fun h0 => by
  rw [hprc]
  exact ⟨rfl, if_pos (hown.symm.trans h0), rfl⟩

theorem restartPrc_staysStarting (s : State) : StaysStarting (restartPrc s) :=
  reset_staysStarting (restartPrc_prc s) (by rw [State.own, restartPrc_touches s .cfg (by decide)]; rfl)

end

theorem staysStarting_kept : KeptByParts [.prc, .cfg] (fun _ => True) StaysStarting where
  frame hsame h h0 := by
    rw [State.own, hsame .cfg (by decide)] at h0
    rw [hsame .prc (by decide)]
    exact h h0
  powerOn _ _ _ _ := reset_staysStarting rfl rfl
  restartCold _ _ _ _ := restartPrc_staysStarting _
  restartWarm _ _ _ _ := restartPrc_staysStarting _
  heardFrom := .inr fun n m s _ h => by
    obtain ⟨r, c, hprc, hc⟩ := heardFrom_members s n m
    exact h.members hprc hc (heardFrom_touches n m s)
  malformed := .inr fun _ _ h => h
  takeMark := .inr fun leg _ _ h => staysStarting_route.takeMark leg h
  takeOrigin := .inr fun s _ h => staysStarting_route.legEvaluation
    (h.idle (voyageStart_touches s) fun _ => voyageStart_touches s .prc (by decide))
  takeTableData := .inr fun n bs _ _ h => staysStarting_route.takeTableData n bs h
  beaconTime := .inr fun s _ h => h.idle (beaconTime_touches s) fun hstate => by
    unfold beaconTime; split
    · rfl
    · simp [hstate]
  leaveStarting := .inr fun s _ h hdue _ h0 => by
    rw [State.own, leaveStarting_touches s .cfg (by decide)] at h0
    rw [(h h0).2.1] at hdue
    simp [due] at hdue
  dwellExpired := .inr fun s _ h => h.idle (dwellExpired_touches s) fun hstate => by simp [dwellExpired, hstate]
  peerQuiet := .inr fun p s _ h => by
    obtain ⟨r, c, hprc, hc⟩ := peerQuiet_members s p
    exact h.members hprc hc (peerQuiet_touches p s)
  peerLost := .inr fun p s _ h => by
    obtain ⟨r, c, hprc, hc⟩ := peerLost_members s p
    exact h.members hprc hc (peerLost_touches p s)
  returnHoldExpired := .inr fun p s _ h => by
    obtain ⟨c, hprc, hc⟩ := returnHoldExpired_members s p
    exact h.members hprc (fun _ hcover => hc hcover) (returnHoldExpired_touches p s)
  deadlinePassed := .inr fun s _ h h0 => by
    rw [State.own, deadlinePassed_touches s .cfg (by decide)] at h0
    obtain ⟨hstate, hlisten, hcover⟩ := h h0
    unfold deadlinePassed
    split
    · simp [hstate, hlisten, hcover]
    · exact ⟨hstate, hlisten, hcover⟩
  orphanExpired := .inr fun s _ h => h.idle (orphanExpired_touches s) fun hstate => by simp [orphanExpired, hstate]
  loseRadio := .inr fun s _ h => h.idle (loseRadio_touches s) fun hstate => by
    unfold loseRadio radioLost; split
    · simp [hstate]
    · rfl
  takeHealth := .inr fun s _ h => by
    by_cases hdark : s.prc.serving = .dark
    · intro h0
      rw [State.own, takeHealth_touches s .cfg (by decide)] at h0
      simpa [hdark] using (h h0).1
    · rw [takeHealth_of_not_dark hdark]
      exact h.congr id rfl (fun _ hc => hc) rfl
  takeHold := .inr fun s _ h => by
    unfold takeHold; split
    · exact h.congr id rfl (fun _ hc => hc) rfl
    · exact h.congr id rfl (fun _ hc => hc) rfl

/-- Settles O56: each entry into a serving state sets its timers and leaves no entry or member it may not have; a
listen-only station never leaves STARTING, and every offer of a frame is guarded against it. -/
theorem stepKeepsTheServingStates : Obligations.StepKeepsTheServingStates := by
  refine ⟨fun s t ⟨horders, hlaws⟩ hstep => ?serving, fun s t h hstep => ?listenOnly⟩
  case serving =>
    exact servingSound_iff.1 (servingSound_kept.step ordersLaw_before (fun _ _ h => h) rfl s t
      ⟨horders, servingSound_iff.2 hlaws⟩ hstep)
  case listenOnly =>
    obtain ⟨hstate, hframes⟩ := listenOnlyLaw_iff.1 h
    exact listenOnlyLaw_iff.2 ⟨staysStarting_kept.step_alone rfl s t hstate hstep,
      (noFrames_shared.parts noFrames_rest).step_alone rfl s t hframes hstep⟩

end Sys2Proof.Machine
end

section
/-! The roster and the cover set (R132 to R136): each change of a roster entry rewrites that entry's place in the cover set
and no other's. -/

-- One theorem after another: all at once take more threads than the check's memory holds.
set_option Elab.async false

namespace Sys2Proof.Machine

/-! ## The law, told of the coverage block -/

/-- The member stands in the cover set as the roster entry `e` asks: a neighbour's, with a return hold just where the entry
is not failed. -/
def Peer.Holds (e : Peer) (m : CoverMember) : Prop := e.neighbour = true ∧ (e.failed = true ↔ m.holdUntil = none)

/-- The entry is one that a SERVING station covers. -/
def Peer.NeedsCover (e : Peer) : Prop := e.neighbour = true ∧ e.failed = true

/-- The roster and the cover set without the rule that every failed neighbour is covered. -/
structure Prc.Listed (own : Nat) (neighbours : List Nat) (p : Prc) : Prop where
  stations : p.roster.map Peer.station = (List.range' 1 31).filter (fun n => n != own)
  marks    : ∀ e ∈ p.roster, e.neighbour = neighbours.contains e.station
  once     : (p.cover.map CoverMember.station).Nodup
  members  : ∀ m ∈ p.cover, ∃ e ∈ p.roster, e.station = m.station ∧ e.Holds m

/-- The roster and the cover set. -/
structure Prc.Covering (own : Nat) (neighbours : List Nat) (p : Prc) : Prop extends p.Listed own neighbours where
  failed : p.serving = .serving → ∀ e ∈ p.roster, e.NeedsCover → ∃ m ∈ p.cover, m.station = e.station

/-- The laws of the roster and of the cover set. -/
def CoverSound (s : State) : Prop := s.prc.Covering s.own s.cfg.neighbours

theorem covers_iff {s : State} {n : Nat} : s.covers n = true ↔ ∃ m ∈ s.prc.cover, m.station = n := by
  simp [State.covers]

theorem coverSound_iff {s : State} : CoverSound s ↔ RosterLaw s ∧ CoverLaw s := by
  constructor
  · rintro ⟨⟨hstations, hmarks, honce, hmembers⟩, hfailed⟩
    exact ⟨⟨hstations, hmarks⟩, honce, hmembers, fun hs e he hn hf => covers_iff.2 (hfailed hs e he ⟨hn, hf⟩)⟩
  · rintro ⟨⟨hstations, hmarks⟩, honce, hmembers, hfailed⟩
    exact ⟨⟨hstations, hmarks, honce, hmembers⟩, fun hs e he ⟨hn, hf⟩ => covers_iff.1 (hfailed hs e he hn hf)⟩

section
variable {own : Nat} {neighbours : List Nat} {p : Prc}

theorem Prc.Listed.entry_unique (h : p.Listed own neighbours) {e f : Peer} (he : e ∈ p.roster) (hf : f ∈ p.roster)
    (hef : e.station = f.station) : e = f := by
  have hnodup : (p.roster.map Peer.station).Nodup := by
    rw [h.stations]; exact List.Nodup.filter _ List.nodup_range'
  exact List.inj_on_of_nodup_map hnodup he hf hef

theorem Prc.Listed.member_unique (h : p.Listed own neighbours) {m k : CoverMember} (hm : m ∈ p.cover) (hk : k ∈ p.cover)
    (hmk : m.station = k.station) : m = k :=
  List.inj_on_of_nodup_map h.once hm hk hmk

/-- A member of the station of an entry stands there as the entry asks. -/
theorem Prc.Listed.holds_of_mem (h : p.Listed own neighbours) {e : Peer} {m : CoverMember} (he : e ∈ p.roster)
    (hm : m ∈ p.cover) (hem : m.station = e.station) : e.Holds m := by
  obtain ⟨f, hf, hfm, hholds⟩ := h.members m hm
  rwa [h.entry_unique he hf (hem.symm.trans hfm.symm)]

/-- An entry is written, and the cover set `c` differs in the entry's station alone, where it holds what the new entry
asks. -/
theorem Prc.Covering.setPeer (h : p.Covering own neighbours) {old new : Peer} (hold : old ∈ p.roster)
    (hstation : new.station = old.station) (hmark : new.neighbour = old.neighbour) {c : List CoverMember}
    (honce : (c.map CoverMember.station).Nodup)
    (hothers : ∀ m : CoverMember, m.station ≠ new.station → (m ∈ c ↔ m ∈ p.cover))
    (hmine : ∀ m ∈ c, m.station = new.station → new.Holds m)
    (hjoined : p.serving = .serving → new.NeedsCover → ∃ m ∈ c, m.station = new.station) :
    ({ p with roster := p.roster.map (fun x => if x.station = new.station then new else x), cover := c } : Prc).Covering
      own neighbours := by
  have hmem : ∀ e, e ∈ p.roster.map (fun x => if x.station = new.station then new else x) ↔
      e = new ∨ (e ∈ p.roster ∧ e.station ≠ new.station) := by
    intro e
    rw [List.mem_map]
    constructor
    · rintro ⟨x, hx, rfl⟩
      split
      · exact .inl rfl
      · next hne => exact .inr ⟨hx, hne⟩
    · rintro (rfl | ⟨he, hne⟩)
      · exact ⟨old, hold, if_pos hstation.symm⟩
      · exact ⟨e, he, if_neg hne⟩
  refine ⟨⟨?stations, ?marks, honce, ?members⟩, ?failed⟩
  case stations =>
    rw [← h.stations, List.map_map]
    refine List.map_congr_left fun x _ => ?_
    simp only [Function.comp]
    split
    · next hx => exact hx.symm
    · rfl
  case marks =>
    intro e he
    obtain rfl | ⟨he, _⟩ := (hmem e).1 he
    · rw [hmark, hstation, h.marks old hold]
    · exact h.marks e he
  case members =>
    intro m hm
    by_cases hn : m.station = new.station
    · exact ⟨new, (hmem new).2 (.inl rfl), hn.symm, hmine m hm hn⟩
    · obtain ⟨e, he, hem, hholds⟩ := h.members m ((hothers m hn).1 hm)
      exact ⟨e, (hmem e).2 (.inr ⟨he, hem ▸ hn⟩), hem, hholds⟩
  case failed =>
    intro hs e he hneeds
    obtain rfl | ⟨he, hne⟩ := (hmem e).1 he
    · exact hjoined hs hneeds
    · obtain ⟨m, hm, hem⟩ := h.failed hs e he hneeds
      exact ⟨m, (hothers m (hem ▸ hne)).2 hm, hem⟩

/-- A member's return hold is set: the stations of the cover set stay. -/
theorem map_station_setHold (c : List CoverMember) (n : Nat) (t : Option Nat) :
    (c.map (fun m => if m.station = n then { m with holdUntil := t } else m)).map CoverMember.station =
      c.map CoverMember.station := by
  rw [List.map_map]
  refine List.map_congr_left fun m _ => ?_
  simp only [Function.comp]
  split <;> rfl

theorem mem_setHold_of_ne {c : List CoverMember} {n : Nat} {t : Option Nat} {m : CoverMember} (hm : m.station ≠ n) :
    m ∈ c.map (fun k => if k.station = n then { k with holdUntil := t } else k) ↔ m ∈ c := by
  rw [List.mem_map]
  constructor
  · rintro ⟨k, hk, rfl⟩
    split at hm
    · next hkn => exact absurd hkn hm
    · next hkn => rwa [if_neg hkn]
  · exact fun h => ⟨m, h, if_neg hm⟩

theorem holdUntil_of_mem_setHold {c : List CoverMember} {n : Nat} {t : Option Nat} {m : CoverMember}
    (h : m ∈ c.map (fun k => if k.station = n then { k with holdUntil := t } else k)) (hm : m.station = n) :
    m.holdUntil = t := by
  obtain ⟨k, _, rfl⟩ := List.mem_map.1 h
  split
  · rfl
  · next hkn => exact absurd (by rwa [if_neg hkn] at hm) hkn

/-- The cover decision of a written entry keeps the law. -/
theorem Prc.Covering.decide (h : p.Covering own neighbours) {old new : Peer} (hold : old ∈ p.roster)
    (hstation : new.station = old.station) (hmark : new.neighbour = old.neighbour) (servingBeacon : Bool) (now : Nat) :
    ({ p with
        roster := p.roster.map (fun x => if x.station = new.station then new else x)
        cover := coverAfter new servingBeacon now p } : Prc).Covering own neighbours := by
  have hmember : ∀ m ∈ p.cover, m.station = new.station → new.neighbour = true := fun m hm hn =>
    hmark.trans (h.holds_of_mem hold hm (hn.trans hstation)).1
  unfold coverAfter
  split
  · next hnot =>
    rw [Bool.not_eq_true'] at hnot
    exact h.setPeer hold hstation hmark h.once (fun _ _ => .rfl)
      (fun m hm hn => absurd (hmember m hm hn) (by simp [hnot])) (fun _ hneeds => absurd hneeds.1 (by simp [hnot]))
  · next hnot =>
    have hneighbour : new.neighbour = true := by simpa using hnot
    split
    · next hcovered =>
      have hin : ∃ m ∈ p.cover, m.station = new.station := by simpa using hcovered
      split
      · next hfailed =>
        refine h.setPeer hold hstation hmark (by rw [map_station_setHold]; exact h.once)
          (fun m hm => mem_setHold_of_ne hm)
          (fun m hm hn => ⟨hneighbour, by simp [hfailed, holdUntil_of_mem_setHold hm hn]⟩) fun _ _ => ?_
        obtain ⟨m, hm, hn⟩ := hin
        exact ⟨{ m with holdUntil := none }, List.mem_map.2 ⟨m, hm, if_pos hn⟩, hn⟩
      · next hfailed =>
        have hnone : p.serving = .serving → new.NeedsCover → False := fun _ hneeds => hfailed hneeds.2
        split
        · next hruns =>
          obtain ⟨k, hk, hkn, hkh⟩ : ∃ k ∈ p.cover, k.station = new.station ∧ k.holdUntil.isSome = true := by
            simpa using hruns
          refine h.setPeer hold hstation hmark h.once (fun _ _ => .rfl) (fun m hm hn => ⟨hneighbour, ?_⟩)
            fun hs hneeds => (hnone hs hneeds).elim
          rw [h.member_unique hm hk (hn.trans hkn.symm)]
          exact iff_of_false hfailed fun hnil => by simp [hnil] at hkh
        · split
          · exact h.setPeer hold hstation hmark (by rw [map_station_setHold]; exact h.once)
              (fun m hm => mem_setHold_of_ne hm)
              (fun m hm hn => ⟨hneighbour, by simp [hfailed, holdUntil_of_mem_setHold hm hn]⟩)
              fun hs hneeds => (hnone hs hneeds).elim
          · exact h.setPeer hold hstation hmark (h.once.sublist (List.filter_sublist.map _))
              (fun m hm => by simp [hm]) (fun m hm hn => absurd hn (by simpa using (List.mem_filter.1 hm).2))
              fun hs hneeds => (hnone hs hneeds).elim
    · next hcovered =>
      have hout : ∀ m ∈ p.cover, m.station ≠ new.station := by simpa using hcovered
      split
      · next hjoins =>
        rw [Bool.and_eq_true, decide_eq_true_eq] at hjoins
        refine h.setPeer hold hstation hmark ?_ (fun m hm => ?_) (fun m hm hn => ?_)
          fun _ _ => ⟨⟨new.station, none⟩, by simp, rfl⟩
        · rw [List.map_append, List.map_singleton]
          refine h.once.append (List.nodup_singleton _) ?_
          simpa using hout
        · rw [List.mem_append, List.mem_singleton, or_iff_left]
          rintro rfl
          exact hm rfl
        · obtain hm | hm := List.mem_append.1 hm
          · exact absurd hn (hout m hm)
          · rw [List.mem_singleton.1 hm]
            exact ⟨hneighbour, iff_of_true hjoins.2 rfl⟩
      · next hjoins =>
        refine h.setPeer hold hstation hmark h.once (fun _ _ => .rfl) (fun m hm hn => absurd hn (hout m hm))
          fun hs hneeds => absurd ?_ hjoins
        rw [hs, hneeds.2]
        rfl

/-- An entry is written that is failed just where the old one was: the cover set needs no decision. -/
theorem Prc.Covering.keepCover (h : p.Covering own neighbours) {old new : Peer} (hold : old ∈ p.roster)
    (hstation : new.station = old.station) (hmark : new.neighbour = old.neighbour) (hfailed : new.failed = old.failed) :
    ({ p with roster := p.roster.map (fun x => if x.station = new.station then new else x) } : Prc).Covering
      own neighbours := by
  refine h.setPeer hold hstation hmark h.once (fun _ _ => .rfl) (fun m hm hn => ?_) fun hs hneeds => ?_
  · rw [Peer.Holds, hmark, hfailed]
    exact h.holds_of_mem hold hm (hn.trans hstation)
  · rw [Peer.NeedsCover, hmark, hfailed] at hneeds
    rw [hstation]
    exact h.failed hs old hold hneeds

/-- An empty cover set outside SERVING. -/
theorem Prc.Listed.emptied (h : p.Listed own neighbours) {q : Prc} (hroster : q.roster = p.roster) (hcover : q.cover = [])
    (hserving : q.serving ≠ .serving) : q.Covering own neighbours where
  stations := by rw [hroster]; exact h.stations
  marks := by rw [hroster]; exact h.marks
  once := by rw [hcover]; exact .nil
  members := by rw [hcover]; nofun
  failed := fun hs => absurd hs hserving

/-- The law reads the serving state, the roster and the cover set. -/
theorem Prc.Covering.congr (h : p.Covering own neighbours) {q : Prc} (hserving : q.serving = p.serving)
    (hroster : q.roster = p.roster) (hcover : q.cover = p.cover) : q.Covering own neighbours := by
  obtain ⟨⟨hstations, hmarks, honce, hmembers⟩, hfailed⟩ := h
  rw [← hroster] at hstations hmarks hmembers hfailed
  rw [← hcover] at honce hmembers hfailed
  rw [← hserving] at hfailed
  exact ⟨⟨hstations, hmarks, honce, hmembers⟩, hfailed⟩

theorem Prc.Listed.congr (h : p.Listed own neighbours) {q : Prc} (hroster : q.roster = p.roster)
    (hcover : q.cover = p.cover) : q.Listed own neighbours := by
  obtain ⟨hstations, hmarks, honce, hmembers⟩ := h
  rw [← hroster] at hstations hmarks hmembers
  rw [← hcover] at honce hmembers
  exact ⟨hstations, hmarks, honce, hmembers⟩

theorem reset_covering (now own : Nat) (neighbours : List Nat) :
    (Prc.reset now own neighbours).Covering own neighbours where
  stations := by
    simp only [Prc.reset, resetRoster, List.map_map]
    exact List.map_id' _
  marks e he := by
    obtain ⟨n, _, rfl⟩ := List.mem_map.1 he
    rfl
  once := .nil
  members := nofun
  failed := nofun

end

/-! ## The operations of the coverage block -/

section
variable {s t : State}

/-- The law after what leaves the serving state, the roster and the cover set. -/
theorem CoverSound.congr {bs : List Block} (h : CoverSound s) (ht : Touches bs s t)
    (hserving : t.prc.serving = s.prc.serving) (hroster : t.prc.roster = s.prc.roster) (hcover : t.prc.cover = s.prc.cover)
    (hc : Block.cfg ∉ bs := by decide) : CoverSound t := by
  rw [CoverSound, State.own, ht .cfg hc]
  exact Prc.Covering.congr h hserving hroster hcover

theorem CoverSound.frame {bs : List Block} (h : CoverSound s) (ht : Touches bs s t) (hp : Block.prc ∉ bs := by decide)
    (hc : Block.cfg ∉ bs := by decide) : CoverSound t := by
  have hprc : t.prc = s.prc := ht .prc hp
  exact h.congr ht (by rw [hprc]) (by rw [hprc]) (by rw [hprc]) hc

theorem peer?_mem {n : Nat} {e : Peer} (h : s.peer? n = some e) : e ∈ s.prc.roster := List.mem_of_find?_eq_some h

theorem peer?_station {n : Nat} {e : Peer} (h : s.peer? n = some e) : e.station = n := by
  simpa using List.find?_some h

/-- A change of a roster entry keeps the law where an entry that changes without a decision shows the same failure. -/
theorem changePeer_coverSound (h : CoverSound s) {old new : Peer} (hold : old ∈ s.prc.roster)
    (hstation : new.station = old.station) (hmark : new.neighbour = old.neighbour) (viaBeacon servingBeacon : Bool)
    (hsame : viaBeacon = false → old.state = new.state → new.failed = old.failed) :
    CoverSound (changePeer old new viaBeacon servingBeacon s) := by
  rw [CoverSound, State.own, changePeer_touches old new viaBeacon servingBeacon s .cfg (by decide),
    changePeer_prc s old new]
  split
  · exact Prc.Covering.decide h hold hstation hmark _ _
  · next hno =>
    have hno : viaBeacon = false ∧ old.state = new.state := by simpa using hno
    exact Prc.Covering.keepCover h hold hstation hmark (hsame hno.1 hno.2)

theorem heardFrom_coverSound (n : Nat) (m : Option BeaconMsg) (h : CoverSound s) : CoverSound (heardFrom n m s) := by
  unfold heardFrom; split
  · exact h
  · split
    · exact h
    · next old hold =>
      refine changePeer_coverSound h (peer?_mem hold) (by rfl) (by rfl) _ _ fun hvia hstate => ?_
      have hm : m = none := by simpa using hvia
      subst hm
      simp only [Peer.failed] at hstate ⊢
      rw [hstate]

theorem peerQuiet_coverSound (n : Nat) (h : CoverSound s) : CoverSound (peerQuiet n s) := by
  unfold peerQuiet; split
  · exact h
  · next old hold =>
    split
    · exact changePeer_coverSound h (peer?_mem hold) (by rfl) (by rfl) _ _ fun _ hstate => by
        simp only [Peer.failed] at hstate ⊢; rw [hstate]
    · exact h

theorem peerLost_coverSound (n : Nat) (h : CoverSound s) : CoverSound (peerLost n s) := by
  unfold peerLost; split
  · exact h
  · next old hold =>
    split
    · exact changePeer_coverSound h (peer?_mem hold) (by rfl) (by rfl) _ _ fun _ hstate => by
        simp only [Peer.failed] at hstate ⊢; rw [hstate]
    · exact h

/-- A return hold runs out: the member was there for an entry that is not failed. -/
theorem returnHoldExpired_coverSound (n : Nat) (h : CoverSound s) : CoverSound (returnHoldExpired n s) := by
  unfold returnHoldExpired; split
  · next hdue =>
    obtain ⟨m, hm, hmn, hmdue⟩ : ∃ m ∈ s.prc.cover, m.station = n ∧ due m.holdUntil s.timebase = true := by
      simpa using hdue
    refine ⟨⟨h.stations, h.marks, h.once.sublist (List.filter_sublist.map _),
      fun k hk => h.members k (List.mem_of_mem_filter hk)⟩, fun hs e he hneeds => ?_⟩
    obtain ⟨k, hk, hke⟩ := h.failed hs e he hneeds
    refine ⟨k, List.mem_filter.2 ⟨hk, ?_⟩, hke⟩
    have hne : k.station ≠ n := fun hkn => by
      have hnone : k.holdUntil = none := (h.holds_of_mem he hk hke).2.1 hneeds.2
      rw [h.member_unique hm hk (hmn.trans hkn.symm), hnone] at hmdue
      simp [due] at hmdue
    simpa using hne
  · exact h

/-- Failed neighbours join one after another, each where it is not a member. -/
theorem coverEach_listed (l : List Nat) (h : s.prc.Listed s.own s.cfg.neighbours) :
    let t := l.foldl (fun t n => if t.needsCover n then addCover n t else t) s
    t.prc.Listed s.own s.cfg.neighbours ∧ s.prc.cover <+: t.prc.cover ∧
      ∀ e ∈ s.prc.roster, e.station ∈ l → e.NeedsCover → ∃ m ∈ t.prc.cover, m.station = e.station := by
  induction l generalizing s with
  | nil => exact ⟨h, List.prefix_rfl, nofun⟩
  | cons n rest ih =>
    rw [List.foldl_cons]
    have hone : ∀ u : State, u = (if s.needsCover n then addCover n s else s) →
        u.prc.Listed u.own u.cfg.neighbours ∧ u.cfg = s.cfg ∧ u.prc.roster = s.prc.roster ∧
          s.prc.cover <+: u.prc.cover ∧
          ∀ e ∈ s.prc.roster, e.station = n → e.NeedsCover → ∃ m ∈ u.prc.cover, m.station = n := by
      rintro u rfl
      split
      · next hneeds =>
        obtain ⟨hout, e, he, hneighbour, hfailed⟩ : s.covers n = false ∧ ∃ e, s.peer? n = some e ∧
            e.neighbour = true ∧ e.failed = true := by
          simp only [State.needsCover] at hneeds
          split at hneeds
          · next e he => exact ⟨by simpa using (Bool.and_eq_true_iff.1 hneeds).1, e, he, by simpa using (Bool.and_eq_true_iff.1 hneeds).2⟩
          · simp at hneeds
        have hout : ∀ m ∈ s.prc.cover, m.station ≠ n := by simpa [State.covers] using hout
        refine ⟨⟨h.stations, h.marks, ?_, fun m hm => ?_⟩, rfl, rfl, List.prefix_append _ _,
          fun _ _ _ _ => ⟨⟨n, none⟩, by simp, rfl⟩⟩
        · rw [addCover_prc, List.map_append, List.map_singleton]
          refine h.once.append (List.nodup_singleton _) ?_
          simpa using hout
        · obtain hm | hm := List.mem_append.1 hm
          · exact h.members m hm
          · rw [List.mem_singleton.1 hm]
            exact ⟨e, peer?_mem he, peer?_station he, hneighbour, iff_of_true hfailed rfl⟩
      · next hneeds =>
        refine ⟨h, rfl, rfl, List.prefix_rfl, fun e he hen hneed => ?_⟩
        have hfind : s.peer? n = some e := by
          cases hp : s.peer? n with
          | none => exact absurd hen (by simpa [State.peer?] using List.find?_eq_none.1 hp e he)
          | some f => rw [h.entry_unique he (peer?_mem hp) (hen.trans (peer?_station hp).symm)]
        rw [← covers_iff]
        simpa [State.needsCover, hfind, hneed.1, hneed.2] using hneeds
    obtain ⟨hlisted, hcfg, hroster, hpre, hjoined⟩ := hone _ rfl
    obtain ⟨h1, h2, h3⟩ := ih hlisted
    rw [State.own, hcfg] at h1
    refine ⟨h1, hpre.trans h2, fun e he hmem hneed => ?_⟩
    obtain hen | hmem := List.mem_cons.1 hmem
    · obtain ⟨m, hm, hmn⟩ := hjoined e he hen hneed
      exact ⟨m, h2.subset hm, hmn.trans hen.symm⟩
    · exact h3 e (by rw [hroster]; exact he) hmem hneed

/-- At the entry into SERVING every failed neighbour joins. -/
theorem coverFailed_coverSound (h : s.prc.Listed s.own s.cfg.neighbours) : CoverSound (coverFailed s) := by
  obtain ⟨hlisted, _, hjoined⟩ := coverEach_listed s.cfg.neighbours h
  obtain ⟨c, hprc⟩ := coverFailed_prc s
  rw [CoverSound, State.own, coverFailed_touches s .cfg (by decide)]
  refine ⟨hlisted, fun _ e he hneed => hjoined e (by rw [hprc] at he; exact he) ?_ hneed⟩
  have hmark := h.marks e (by rw [hprc] at he; exact he)
  rw [hneed.1] at hmark
  simpa using hmark.symm

theorem coverIfServing_coverSound (h : s.prc.Listed s.own s.cfg.neighbours) : CoverSound (coverIfServing s) := by
  unfold coverIfServing; split
  · exact coverFailed_coverSound h
  · next hne => exact ⟨h, fun hs => absurd hs hne⟩

theorem enterDormant_coverSound (h : CoverSound s) : CoverSound (enterDormant s) := by
  rw [CoverSound, State.own, enterDormant_touches s .cfg (by decide), enterDormant_prc]
  exact h.toListed.emptied rfl rfl nofun

theorem enterDark_coverSound (h : CoverSound s) : CoverSound (enterDark s) := by
  rw [CoverSound, State.own, enterDark_touches s .cfg (by decide), enterDark_prc]
  exact h.toListed.emptied rfl rfl nofun

theorem chooseState_listed (h : s.prc.Listed s.own s.cfg.neighbours) :
    (chooseState s).prc.Listed (chooseState s).own (chooseState s).cfg.neighbours := by
  rw [State.own, chooseState_touches s .cfg (by decide), chooseState_prc]
  exact h.congr rfl rfl

theorem wake_coverSound (h : CoverSound s) : CoverSound (wake s) :=
  coverIfServing_coverSound (chooseState_listed (h.toListed.congr rfl rfl))

theorem silenceChanged_coverSound (silent : Bool) (h : CoverSound s) : CoverSound (silenceChanged silent s) := by
  unfold silenceChanged
  extract_lets _ s1
  have h1 : CoverSound s1 := h
  split
  · split
    · exact enterDormant_coverSound h1
    · exact enterDormant_coverSound h1
    · exact Prc.Covering.congr h1 rfl rfl rfl
    · exact h1
  · split
    · split
      · exact wake_coverSound h1
      · exact Prc.Covering.congr h1 rfl rfl rfl
    all_goals exact h1

/-- The end of the listen period: the state entered covers no one yet, and then every failed neighbour where it is
SERVING. -/
theorem leaveStarting_coverSound (h : CoverSound s) : CoverSound (leaveStarting s) := by
  unfold leaveStarting
  extract_lets _ s1 s2 s3 s4 s5
  have h1 : CoverSound s1 := Prc.Covering.congr h rfl rfl rfl
  have h2 : s2.prc.Listed s2.own s2.cfg.neighbours := by
    simp only [s2]; split
    · exact (enterDormant_coverSound h1).toListed
    · exact chooseState_listed h1.toListed
  have h5 : (evaluate s5).prc = { s2.prc with nextBeacon := some (s4.timebase + 250) } :=
    (evaluate_touches s5 .prc (by decide)).trans (beaconAt_touches _ .prc (by decide))
  have hcfg : (evaluate s5).cfg = s2.cfg :=
    (evaluate_touches s5 .cfg (by decide)).trans (beaconAt_touches _ .cfg (by decide))
  refine coverIfServing_coverSound ?_
  rw [State.own, hcfg, h5]
  exact h2.congr rfl rfl

theorem takeHealth_coverSound (h : CoverSound s) : CoverSound (takeHealth s) := by
  have h1 : CoverSound (setHealthy s) := Prc.Covering.congr h rfl rfl rfl
  by_cases hdark : s.prc.serving = .dark
  · have h2 : CoverSound (stopOrphanTimer (setHealthy s)) := Prc.Covering.congr h1 rfl rfl rfl
    rw [takeHealth_of_dark hdark]
    split
    · exact enterDormant_coverSound h2
    · exact coverFailed_coverSound (h2.toListed.congr rfl rfl)
  · rw [takeHealth_of_not_dark hdark]
    exact h1

theorem radioLost_coverSound (h : CoverSound s) : CoverSound (radioLost s) := by
  unfold radioLost; split
  · exact enterDark_coverSound h
  · exact h

end

/-! ## Over the parts of the commands -/

theorem coverSound_route : KeptByRoute CoverSound where
  route _ _ h := h
  tables _ _ h := h
  identity h := h
  changeZone zone s h := h.frame (changeZone_touches zone s)
  silenceChanged silent _ h := silenceChanged_coverSound silent h
  evaluate {s} h := h.frame (evaluate_touches s)
  recheckRow row s h := h.frame (recheckRow_touches row s)

theorem restartPrc_coverSound (s : State) : CoverSound (restartPrc s) := by
  rw [CoverSound, State.own, restartPrc_touches s .cfg (by decide), restartPrc_prc]
  exact reset_covering _ _ _

theorem coverSound_kept : KeptByParts [.prc, .cfg] (fun _ => True) CoverSound where
  frame hsame h := by
    rw [CoverSound, State.own, hsame .prc (by decide), hsame .cfg (by decide)]
    exact h
  powerOn _ _ _ _ := reset_covering _ _ _
  restartCold _ _ _ _ := restartPrc_coverSound _
  restartWarm _ _ _ _ := restartPrc_coverSound _
  heardFrom := .inr fun n m _ _ h => heardFrom_coverSound n m h
  malformed := .inr fun _ _ h => h
  takeMark := .inr fun leg _ _ h => coverSound_route.takeMark leg h
  takeOrigin := .inr fun s _ h => coverSound_route.legEvaluation (h.frame (voyageStart_touches s))
  takeTableData := .inr fun n bs _ _ h => coverSound_route.takeTableData n bs h
  beaconTime := .inr fun s _ h => by
    unfold beaconTime; split
    · exact h
    · split
      · exact CoverSound.frame (s := scheduleBeacon _ s) (Prc.Covering.congr h rfl rfl rfl) (beaconAt_touches _)
      · exact h
  leaveStarting := .inr fun _ _ h _ _ => leaveStarting_coverSound h
  dwellExpired := .inr fun s _ h => by
    unfold dwellExpired; split
    · split
      · exact wake_coverSound h
      · exact Prc.Covering.congr h rfl rfl rfl
    · exact h
  peerQuiet := .inr fun n _ _ h => peerQuiet_coverSound n h
  peerLost := .inr fun n _ _ h => peerLost_coverSound n h
  returnHoldExpired := .inr fun n _ _ h => returnHoldExpired_coverSound n h
  deadlinePassed := .inr fun s _ h => by
    have h1 : CoverSound { s with prc := { s.prc with healthDeadline := none } } := Prc.Covering.congr h rfl rfl rfl
    unfold deadlinePassed; split
    · dsimp only; split
      · exact enterDark_coverSound h1
      · exact h1
    · exact h
  orphanExpired := .inr fun s _ h => by
    have h1 : CoverSound { s with prc := { s.prc with orphanAt := none } } := Prc.Covering.congr h rfl rfl rfl
    unfold orphanExpired; split
    · exact h1.frame (sweep_touches .orphan false _)
    · exact h
  loseRadio := .inr fun s _ h => by
    unfold loseRadio; split
    · exact radioLost_coverSound h
    · exact h
  takeHealth := .inr fun _ _ h => takeHealth_coverSound h
  takeHold := .inr fun s _ h => by
    unfold takeHold; split
    · exact Prc.Covering.congr h rfl rfl rfl
    · exact Prc.Covering.congr h rfl rfl rfl

/-- Settles O60: a change of a roster entry rewrites its own place in the cover set (`Prc.Covering.decide`), the entry into
SERVING adds every failed neighbour, and every other change of the serving state empties the set. -/
theorem stepKeepsTheCover : Obligations.StepKeepsTheCover := fun s t h hstep =>
  coverSound_iff.1 (coverSound_kept.step_alone rfl s t (coverSound_iff.2 h) hstep)

end Sys2Proof.Machine
end

section
/-! Which commands reach the voyage number, the rows of the tables and the straps (R82, R99, R146, R187, R188); and the laws
of the reset state (R190). -/

-- One theorem after another: all at once take more threads than the check's memory holds.
set_option Elab.async false

namespace Sys2Proof.Machine

/-! ## The rows and the configuration -/

/-- The tables without what a load and the counts move. -/
def Tbl.rows (x : Tbl) : Tbl := { x with window := none, refusedOpens := 0, strayData := 0 }

/-- Neither a row of the tables nor a strap nor the neighbour list differs. -/
structure Fixed (s t : State) : Prop where
  rows : t.tbl.rows = s.tbl.rows
  cfg  : { t.cfg with malformed := 0 } = { s.cfg with malformed := 0 }

namespace Fixed
variable {s t u : State}

theorem refl (s : State) : Fixed s s := ⟨rfl, rfl⟩

theorem trans (h : Fixed s t) (h' : Fixed t u) : Fixed s u := ⟨h'.rows.trans h.rows, h'.cfg.trans h.cfg⟩

theorem of_touches {bs : List Block} (h : Touches bs s t) (ht : Block.tbl ∉ bs := by decide)
    (hc : Block.cfg ∉ bs := by decide) : Fixed s t := ⟨by rw [h .tbl ht], by rw [h .cfg hc]⟩

theorem ite {p : Prop} [Decidable p] {a b : State} (ha : Fixed s a) (hb : Fixed s b) : Fixed s (if p then a else b) := by
  split
  · exact ha
  · exact hb

end Fixed

section
variable (n : Nat) (s : State)

theorem setWindow_fixed (w : Option Window) : Fixed s (setWindow w s) := ⟨rfl, rfl⟩
theorem countMalformed_fixed : Fixed s (countMalformed s) := ⟨rfl, rfl⟩
theorem countRefusedOpen_fixed : Fixed s (countRefusedOpen s) := ⟨rfl, rfl⟩

theorem endWindow_fixed : Fixed s (endWindow n s) := by
  unfold endWindow; split
  · exact .refl s
  · exact .ite (setWindow_fixed s _) (.refl s)

theorem hear_fixed : Fixed s (hear n s) := (Fixed.of_touches (heardFrom_touches n none s)).trans (endWindow_fixed n _)

theorem takeTableOpen_fixed (m : WindowMsg) : Fixed s (takeTableOpen n m s) := by
  unfold takeTableOpen; split
  · exact countRefusedOpen_fixed s
  · exact .ite (setWindow_fixed s _) (countRefusedOpen_fixed s)

theorem takeLink_fixed (m : LinkMsg) : Fixed s (takeLink n m s) := by
  unfold takeLink; split
  · exact .of_touches (hearCarrying_touches _ _ s)
  · exact .of_touches (clearViewOf_touches n s)
  · exact .of_touches (clearViewOf_touches n s)

theorem takeBeaconLink_fixed (m : BeaconMsg) : Fixed s (takeBeaconLink n m s) := by
  unfold takeBeaconLink
  exact .ite (.of_touches (hearCarrying_touches _ _ s)) (.of_touches (clearViewOf_touches n s))

theorem receiveOwn_fixed (q : TxQueue) (before : Dbi) (disturbed : Option RxCheck) :
    Fixed s (receiveOwn q before disturbed s) := by
  have heard : Fixed s (hear s.own s) := hear_fixed _ s
  unfold receiveOwn
  split
  · exact .of_touches (Touches.dbi s _)
  · unfold ownContent
    split
    · split
      · exact heard.trans (takeLink_fixed _ _ _)
      · exact heard
    · split
      · split
        · exact heard.trans (takeBeaconLink_fixed _ _ _)
        · exact heard
      · exact heard
    all_goals exact heard

end

/-- Where no restart is, and no TABLE-DATA, every command leaves the rows and the configuration. -/
theorem afterCommand_fixed {c : Instr} (s : State) (hdata : ∀ n bs, c ≠ .tableData n bs) (hpower : ∀ p, c ≠ .powerOn p)
    (hcold : ∀ n x b, c ≠ .restartCold n x b) (hwarm : ∀ n x b, c ≠ .restartWarm n x b)
    (hpin : ∀ b, c ≠ .restartPin b) : Fixed s (afterCommand c s) := by
  have heard : ∀ n, Fixed s (hear n s) := fun n => hear_fixed n s
  have malformed : ∀ n, Fixed s (countMalformed (hear n s)) := fun n => (heard n).trans (countMalformed_fixed _)
  cases c with
  | tableData n bs => exact absurd rfl (hdata n bs)
  | powerOn p => exact absurd rfl (hpower p)
  | restartCold n x b => exact absurd rfl (hcold n x b)
  | restartWarm n x b => exact absurd rfl (hwarm n x b)
  | restartPin b => exact absurd rfl (hpin b)
  | waypoint n leg =>
    cases leg with
    | none => exact malformed n
    | some l => exact (heard n).trans (.of_touches (takeMark_touches l _))
  | waypointOrigin n => exact (heard n).trans (.of_touches (takeOrigin_touches _))
  | claimHeard n key =>
    cases key with
    | none => exact malformed n
    | some k => exact (heard n).trans (.of_touches (takeClaim_touches n k _))
  | releaseHeard n msg =>
    cases msg with
    | none => exact malformed n
    | some m => exact (heard n).trans (.of_touches (takeRelease_touches m _))
  | linkCarryHeard n x hold => exact (heard n).trans (takeLink_fixed n _ ⟨x, hold, .carry⟩)
  | linkDrainHeard n x hold => exact (heard n).trans (takeLink_fixed n _ ⟨x, hold, .drain⟩)
  | linkDownHeard n x hold failed => exact (heard n).trans (takeLink_fixed n _ ⟨x, hold, .down failed⟩)
  | beaconHeard n msg =>
    simp only [afterCommand, exec, execBeaconHeard]
    cases soundBeacon msg with
    | none => exact malformed n
    | some m =>
      exact ((Fixed.of_touches (heardFrom_touches n (some m) s)).trans (endWindow_fixed n _)).trans
        (takeBeaconLink_fixed _ _ _)
  | tableOpen n msg =>
    have h : Fixed s (heardFrom n none s) := .of_touches (heardFrom_touches n none s)
    cases msg with
    | none => exact h.trans (countMalformed_fixed _)
    | some m => exact h.trans (takeTableOpen_fixed n _ m)
  | drainRequest n msg =>
    cases msg with
    | none => exact malformed n
    | some q => exact (heard n).trans (.of_touches (takeDrainRequest_touches q.1 q.2 _))
  | query n target =>
    cases target with
    | none => exact malformed n
    | some x => exact (heard n).trans (.of_touches (takeQuery_touches x _))
  | restartIgnored n msg =>
    cases msg with
    | none => exact malformed n
    | some q =>
      simp only [afterCommand, exec, execRestartIgnored]
      split
      · exact malformed n
      · exact heard n
  | billHeard n => exact heard n
  | drainEndHeard n => exact heard n
  | reportHeard n => exact heard n
  | malformedLinkFrame n => exact malformed n
  | frameSent disturbed =>
    simp only [afterCommand, exec, execFrameSent, frameSent]
    split
    · exact .refl s
    · next q _ =>
      exact (Fixed.of_touches ((Touches.dbi s { s.dbi with onLine := none }).comp (takeSending_touches q _)
        (cs := [.dbi, .hov, .sub, .bsd]))).trans (receiveOwn_fixed _ q s.dbi disturbed)
  | channelBreak ch =>
    cases ch with
    | radio => exact .of_touches (afterCommand_touches (.channelBreak .radio) s)
    | terminal => exact .of_touches (afterCommand_touches (.channelBreak .terminal) s)
  | _ => exact .of_touches (afterCommand_touches _ s) (by simp [blocksOf]) (by simp [blocksOf])

/-! ## The voyage number -/

section
variable (s : State)

theorem moveLeg_voyage (leg : Nat) : (moveLeg leg s).rtk.voyage = s.rtk.voyage := by
  unfold moveLeg; split
  · rfl
  · rw [legEvaluation_rtk]

theorem takeMark_voyage (leg : Nat) : (takeMark leg s).rtk.voyage = s.rtk.voyage := by
  unfold takeMark; split
  · rfl
  · split
    · exact moveLeg_voyage s _
    · split
      · rfl
      · split
        · rfl
        · split
          · exact moveLeg_voyage s _
          · exact moveLeg_voyage (countSlip s) _

theorem headerWritten_voyage : (headerWritten s).rtk.voyage = s.rtk.voyage := by
  unfold headerWritten
  dsimp only
  split
  · rw [legEvaluation_rtk]; rfl
  · split
    · rw [legEvaluation_rtk]; rfl
    · rw [legEvaluation_rtk]

theorem notice_voyage (table : TableId) (i : Nat) : (notice table i s).rtk.voyage = s.rtk.voyage := by
  cases table with
  | zone => simp only [notice]; split <;> rfl
  | tariff => rfl
  | partner => exact congrArg Rtk.voyage (recheckRow_touches i s .rtk (by decide))
  | route =>
    cases i with
    | zero =>
      exact (congrArg Rtk.voyage (evaluate_touches (headerWritten s) .rtk (by decide))).trans (headerWritten_voyage s)
    | succ j => simp only [notice, legEvaluation_rtk]
  | link => exact congrArg Rtk.voyage (evaluate_touches s .rtk (by decide))
  | silence => simp only [notice, evaluateSilence_rtk]

theorem takeTableData_voyage (n : Nat) (bs : List Byte) : (takeTableData n bs s).rtk.voyage = s.rtk.voyage := by
  unfold takeTableData; split
  · rfl
  · split
    · exact notice_voyage _ _ _
    · rfl

theorem restartWarmNow_rtk (b : Board) : (restartWarmNow b s).rtk = { s.rtk with slipUntil := none, badMarks := 0 } := by
  rw [restartWarmNow_eq, restartPrc_rtk, restartSlc_rtk, warmBlocks_rtk]

theorem restartWarmNow_tbl (b : Board) : (restartWarmNow b s).tbl = s.tbl.rows := by
  rw [restartWarmNow_eq, restartPrc_tbl, restartSlc_tbl, warmBlocks_tbl]
  rfl

theorem hear_rtk (n : Nat) : (hear n s).rtk = s.rtk := hear_touches n s .rtk (by decide)

end

theorem afterCommand_voyage {c : Instr} (s : State) (horigin : ∀ n, c ≠ .waypointOrigin n) (hpower : ∀ p, c ≠ .powerOn p)
    (hcold : ∀ n x b, c ≠ .restartCold n x b) : (afterCommand c s).rtk.voyage = s.rtk.voyage := by
  cases c with
  | waypointOrigin n => exact absurd rfl (horigin n)
  | powerOn p => exact absurd rfl (hpower p)
  | restartCold n x b => exact absurd rfl (hcold n x b)
  | restartWarm n x b =>
    simp only [afterCommand, exec, execRestartWarm]
    split
    · rw [restartWarmNow_rtk, hear_rtk]
    · rw [hear_rtk]
  | restartPin b => exact (congrArg Rtk.voyage (restartWarmNow_rtk s b) : _)
  | waypoint n leg =>
    cases leg with
    | none => exact congrArg Rtk.voyage (hear_rtk s n)
    | some l => exact (takeMark_voyage _ l).trans (congrArg Rtk.voyage (hear_rtk s n))
  | tableData n bs =>
    exact (takeTableData_voyage _ n bs).trans (congrArg Rtk.voyage (heardFrom_touches n none s .rtk (by decide)))
  | slipFlagExpiry => exact apply_ite (fun t : State => t.rtk.voyage) _ _ _ |>.trans (ite_self _)
  | channelBreak ch =>
    cases ch with
    | radio => exact congrArg Rtk.voyage (afterCommand_touches (.channelBreak .radio) s .rtk (by decide))
    | terminal => exact congrArg Rtk.voyage (afterCommand_touches (.channelBreak .terminal) s .rtk (by decide))
  | _ => exact congrArg Rtk.voyage (afterCommand_touches _ s .rtk (by simp [blocksOf]))

/-- Settles O3: `afterCommand_voyage` and `afterCommand_fixed` say what the commands not named leave; of those named a
TABLE-DATA and an origin mark do not touch the configuration, and a warm restart keeps the rows. -/
theorem onlyTheseCommandsReachVoyageTablesAndStraps : Obligations.OnlyTheseCommandsReachVoyageTablesAndStraps := by
  rintro c s t hexec
  obtain rfl := afterCommand_of_exec hexec
  refine ⟨fun hvoyage => ?voyage, fun hrows => ?rows, fun hcfg => ?cfg⟩
  case voyage =>
    by_contra hnot
    simp only [not_or, not_exists] at hnot
    obtain ⟨horigin, hpower, hcold⟩ := hnot
    exact hvoyage (afterCommand_voyage s horigin hpower hcold)
  case rows =>
    by_contra hnot
    simp only [not_or, not_exists] at hnot
    obtain ⟨hdata, hpower, hcold⟩ := hnot
    refine hrows (?_ : (afterCommand c s).tbl.rows = s.tbl.rows)
    by_cases hwarm : ∃ n x b, c = .restartWarm n x b
    · obtain ⟨n, x, b, rfl⟩ := hwarm
      have hheard := (hear_fixed n s).rows
      simp only [afterCommand, exec, execRestartWarm]
      split
      · rw [restartWarmNow_tbl, ← hheard]; rfl
      · exact hheard
    · by_cases hpin : ∃ b, c = .restartPin b
      · obtain ⟨b, rfl⟩ := hpin
        exact (congrArg Tbl.rows (restartWarmNow_tbl s b) : _)
      · simp only [not_exists] at hwarm hpin
        exact (afterCommand_fixed s hdata hpower hcold hwarm hpin).rows
  case cfg =>
    by_contra hnot
    simp only [not_or, not_exists] at hnot
    obtain ⟨hpower, hcold, hwarm, hpin⟩ := hnot
    refine hcfg ?_
    by_cases hdata : ∃ n bs, c = .tableData n bs
    · obtain ⟨n, bs, rfl⟩ := hdata
      rw [(afterCommand_touches (.tableData n bs) s .cfg (by simp [blocksOf]) : (afterCommand (.tableData n bs) s).cfg = s.cfg)]
    · simp only [not_exists] at hdata
      have h := (afterCommand_fixed s hdata hpower hcold hwarm hpin).cfg
      simp only [Cfg.mk.injEq] at h
      obtain ⟨hstraps, hneighbours, hfault, _⟩ := h
      rw [hstraps, hneighbours, hfault]

/-! ## The laws right after power-on (R190) -/

/-- Settles O52: the reset state has no entry, no frame and no cover set; of its laws those with a lemma for reset blocks
follow from it, and the others read its fields. -/
theorem resetKeepsEveryLaw : Obligations.ResetKeepsEveryLaw := by
  have hroute := routeLaws_of_reset (t := State.reset) rfl rfl
  have hserving := servingSound_iff.1 (reset_sound (t := State.reset) (own := 0) rfl rfl rfl)
  have hcover : RosterLaw State.reset ∧ CoverLaw State.reset := coverSound_iff.1 (reset_covering 0 0 [])
  have hfree : ∀ e, Slot.opened e ∉ State.reset.sub.slots := fun e h => nomatch List.eq_of_mem_replicate h
  have hkeys : KeysLaw State.reset := by
    rw [KeysLaw, show State.reset.sub.slots = List.replicate 96 .free from rfl,
      List.filterMap_replicate_of_none rfl]
    exact .nil
  have hdrain : DrainLaw State.reset := ⟨.inl rfl, nofun, nofun, nofun⟩
  obtain ⟨_, _, hclass1, hlink, hbeside, hbeacon, hbill, hend, hreports⟩ := reset_bounded
  have hclosing : ClosingLaw State.reset := fun h => absurd rfl h
  have hclaims : ClaimsLaw State.reset := ⟨rfl, .nil, fun e he => absurd he (hfree e)⟩
  have hdepartures : DeparturesLaw State.reset := ⟨Nat.zero_le _, .nil, fun e he => absurd he (hfree e)⟩
  have hpartner : PartnerLaw State.reset := fun e he => absurd he (hfree e)
  have hcap : CapLaw State.reset := fun e he => absurd he (hfree e)
  have hplaces : PlacesLaw State.reset :=
    ⟨Nat.zero_le _, Nat.zero_le _, Nat.zero_le _, show 1 ≤ Config.radioPlaces by decide, Nat.zero_le _⟩
  have hgate : GateLaw State.reset := ⟨rfl, fun _ => rfl⟩
  have hphase : PhaseLaw State.reset :=
    ⟨⟨fun _ => rfl, fun _ => rfl⟩, rfl, nofun, ⟨nofun, nofun⟩, ⟨nofun, nofun⟩, ⟨nofun, nofun⟩⟩
  have hlisten : ListenOnlyLaw State.reset := fun _ => ⟨rfl, rfl, rfl, rfl, rfl, rfl, rfl, rfl, rfl, rfl, rfl⟩
  unfold Obligations.ResetKeepsEveryLaw
  exact ⟨reset_ordersLaw rfl, hkeys, hcap, hclaims, hdepartures, hpartner, hserving.1, hserving.2, hlisten, hplaces,
    ⟨hclass1, hlink, hbeside, hbeacon, hbill, hend, hreports⟩, hclosing, hroute.1, hroute.2, hgate, hphase, hdrain, hcover⟩

end Sys2Proof.Machine
end

section
/-! Power-on and the restarts (R188 to R190): what shore link control and the cover set queue as they let go, and the state
each restart leaves. -/

-- One theorem after another: all at once take more threads than the check's memory holds.
set_option Elab.async false

namespace Sys2Proof.Machine

/-! ## Several directives to the radio head (R181) -/

/-- Directives are queued to the radio head one after another. -/
def queueAll (ds : List RadioDirective) (s : State) : State := ds.foldl (fun t d => queueRadio d t) s

section
variable (ds : List RadioDirective) (s : State)

theorem queueAll_touches : Touches [.rch] s (queueAll ds s) := .foldl _ (fun _ _ => queueRadio_touches _ _) _ _

theorem queueAll_append (ds' : List RadioDirective) : queueAll (ds ++ ds') s = queueAll ds' (queueAll ds s) :=
  List.foldl_append

/-- Directives that all find a place. -/
theorem queueAll_room {ds : List RadioDirective} {s : State} (h : s.rch.queue.length + ds.length ≤ 16) :
    (queueAll ds s).rch.queue = s.rch.queue ++ ds ∧ (queueAll ds s).rch.drops = s.rch.drops ∧
      (queueAll ds s).radioFault = s.radioFault := by
  induction ds generalizing s with
  | nil => exact ⟨(List.append_nil _).symm, rfl, rfl⟩
  | cons d rest ih =>
    rw [List.length_cons] at h
    obtain ⟨hqueue, hdrops, hfault⟩ := queueRadio_room (s := s) d (by rw [Config.radioPlaces]; omega)
    obtain ⟨h1, h2, h3⟩ := ih (s := queueRadio d s) (by rw [hqueue, List.length_append, List.length_singleton]; omega)
    exact ⟨by rw [queueAll, List.foldl_cons, ← queueAll, h1, hqueue, List.append_assoc]; rfl, h2.trans hdrops,
      h3.trans hfault⟩

/-- A transmitter that holds its line at mark starts none of them. -/
theorem queueAll_held (h : s.rch.markHold = true) :
    ∃ q n, (queueAll ds s).rch = { s.rch with queue := q, drops := n } := by
  refine List.foldlRecOn (motive := fun t : State => ∃ q n, t.rch = { s.rch with queue := q, drops := n }) ds _
    ⟨_, _, rfl⟩ fun t ⟨q, n, ht⟩ d _ => ?_
  have hgate : t.radioGate = false := by rw [State.radioGate, ht, h, Bool.not_true, Bool.and_false]
  rw [queueRadio_rch, hgate, ht, Chan.enqueue]
  split
  · exact ⟨_, _, rfl⟩
  · exact ⟨_, _, by rw [Bool.or_false]⟩

/-- The cover set is emptied: COVER off for each member in order. -/
theorem emptyCover_eq : emptyCover s =
    { queueAll (s.prc.cover.map fun m => .cover m.station false) s with prc := { s.prc with cover := [] } } := by
  have hall : s.prc.cover.foldl (fun t m => queueRadio (.cover m.station false) t) s =
      queueAll (s.prc.cover.map fun m => .cover m.station false) s := by rw [queueAll, List.foldl_map]
  unfold emptyCover
  dsimp only
  rw [hall, queueAll_touches _ s .prc (by decide)]

end

/-! ## The last step of a restart: the coverage block (R125, R143) -/

/-- The directives that the coverage block queues at a restart: COVER off for each member, then DORMANT. -/
def Prc.letGo (p : Prc) : List RadioDirective := (p.cover.map fun m => .cover m.station false) ++ [.dormant]

section
variable (s : State)

theorem restartPrc_rch : (restartPrc s).rch = (queueAll s.prc.letGo s).rch ∧
    (restartPrc s).radioFault = (queueAll s.prc.letGo s).radioFault := by
  rw [restartPrc, emptyCover_eq, Prc.letGo, queueAll_append]
  exact ⟨rfl, rfl⟩

/-- A restart with at most 15 members in the cover set queues what the coverage block lets go, and nothing is dropped. -/
theorem restartPrc_room (hqueue : s.rch.queue = []) (hroom : s.prc.cover.length ≤ 15) :
    (restartPrc s).rch.queue = s.prc.letGo ∧ (restartPrc s).rch.drops = s.rch.drops ∧
      (restartPrc s).radioFault = s.radioFault := by
  obtain ⟨hrch, hfault⟩ := restartPrc_rch s
  obtain ⟨h1, h2, h3⟩ := queueAll_room (ds := s.prc.letGo) (s := s) (by simp [hqueue, Prc.letGo]; omega)
  rw [hrch, hfault]
  exact ⟨by rw [h1, hqueue, List.nil_append], h2, h3⟩

theorem restartPrc_tch : (restartPrc s).tch = s.tch := restartPrc_touches s .tch (by decide)
theorem restartPrc_dbi : (restartPrc s).dbi = s.dbi := restartPrc_touches s .dbi (by decide)
theorem restartPrc_slc : (restartPrc s).slc = s.slc := restartPrc_touches s .slc (by decide)
theorem restartPrc_cfg : (restartPrc s).cfg = s.cfg := restartPrc_touches s .cfg (by decide)
theorem restartPrc_timebase : (restartPrc s).timebase = s.timebase := restartPrc_touches s .timebase (by decide)

end

/-- A roster after its reset: no entry has been heard. -/
theorem reset_unheard {now own : Nat} {neighbours : List Nat} :
    ∀ e ∈ (Prc.reset now own neighbours).roster, e.state = .unheard ∧ e.lastHeard = none ∧ e.beacon = none := fun e he => by
  obtain ⟨n, _, rfl⟩ := List.mem_map.1 he
  exact ⟨rfl, rfl, rfl⟩

/-! ## Shore link control at a restart (R122, R123) -/

/-- Shore link control let go under the straps as they stand: OFF at a terminal station, NONE at another, its timers,
counts and carrier view gone. -/
def linkLetGo (s : State) : State :=
  { s with slc := { s.slc with
      phase := if s.isTerminal then .off else .none
      activated := false, settleAt := none, runCount := 0, belowFloor := 0, drainAt := none, retryAt := none
      view := none, shoreHold := false, gateOpen := false } }

section
variable {s : State}

theorem restartSlc_of_quiet (h : s.isTerminal = false ∨ s.slc.phase = .none ∨ s.slc.phase = .off) :
    restartSlc s = linkLetGo s := if_neg (by rcases h with h | h | h <;> simp [h])

theorem restartSlc_of_active (hterminal : s.isTerminal = true) (hnone : s.slc.phase ≠ .none) (hoff : s.slc.phase ≠ .off) :
    restartSlc s =
      if s.wantedByPlan then activate (announce (.down false) (deactivate (linkLetGo s)))
      else announce (.down false) (deactivate (linkLetGo s)) := by
  have hact : (s.isTerminal && s.slc.phase != .none && s.slc.phase != .off) = true := by simp [hterminal, hnone, hoff]
  have hplan : (announce (.down false) (deactivate (linkLetGo s))).wantedByPlan = s.wantedByPlan := by
    simp only [State.wantedByPlan, State.ownLink, announce_cfg, announce_rtk]
    rfl
  unfold restartSlc
  dsimp only
  rw [if_pos hact]
  exact if_congr (by rw [← hplan]; rfl) rfl rfl

/-- A terminal station with empty queues lets an activated link go: DEACTIVATE, and a LINK DOWN not marked failed. -/
theorem announceDown_of_empty (hterminal : s.isTerminal = true) (hlink : s.dbi.link = none) :
    announce (.down false) (deactivate (linkLetGo s)) =
      { deactivate (linkLetGo s) with dbi := { s.dbi with
          link := some ⟨⟨s.cfg.straps.linkId, s.slc.hold, .down false⟩, 0, s.timebase⟩ } } := by
  have hown : s.cfg.straps.station ≠ 0 := by
    simp only [State.isTerminal, terminalStraps, Bool.and_eq_true, bne_iff_ne] at hterminal
    exact hterminal.2
  have hlisten : (deactivate (linkLetGo s)).listenOnly = false := State.listenOnly_of_own hown
  rw [announce, offerLink, if_neg (by simp [hlisten])]
  have : (deactivate (linkLetGo s)).dbi.link = none := hlink
  rw [this]
  rfl

theorem activate_of_settling {s : State} (h : s.ownLinkRow.settleTime ≠ 0) :
    (activate s).slc.phase = .settling ∧ (activate s).slc.activated = true ∧
      (activate s).tch.queue = (queueTerminal .activate s).tch.queue ∧ (activate s).dbi = s.dbi := by
  unfold activate
  dsimp only
  rw [if_neg h]
  exact ⟨rfl, rfl, rfl, rfl⟩

end

/-! ## Power-on -/

/-- Settles O4: `powerOnNow` sets each block to its reset value; the transmitter holds its line at mark, so that DORMANT
waits. -/
theorem powerOnSetsEveryBlock : Obligations.PowerOnSetsEveryBlock := by
  intro p s terminal
  have hcover : RosterLaw (powerOnNow p s) ∧ CoverLaw (powerOnNow p s) := coverSound_iff.1 (reset_covering _ _ _)
  have hgate : (!p.radioHold && !true) = false := Bool.and_false _
  refine ⟨powerOnNow p s, rfl, rfl, rfl, rfl, rfl, rfl, rfl, rfl, rfl, rfl, rfl, rfl, rfl, rfl, rfl, rfl, rfl, rfl, rfl, rfl,
    rfl, rfl, hcover.1, reset_unheard, rfl, rfl, ?_, rfl, rfl⟩
  change (⟨false, none, .hunting, 0, 0, 0, [.dormant], false || (!p.radioHold && !true), true⟩ : Chan RadioDirective) = _
  rw [hgate]
  rfl

/-! ## A warm restart -/

section
variable (b : Board) (s : State)

/-- After the ports the first eight steps of a warm restart leave the configuration, shore link control and the terminal
channel. -/
theorem warmBlocks_after_ports :
    Touches [.sub, .hov, .bsd, .rch, .dbi, .tbl, .rtk, .prc] (restartPorts b s) (warmBlocks b s) :=
  ((((restartTblWarm_touches (restartPorts b s)).comp (restartRtkWarm_touches _)
    (cs := [.sub, .hov, .bsd, .rch, .dbi, .tbl, .rtk, .prc])).comp (restartSubWarm_touches _)
    (cs := [.sub, .hov, .bsd, .rch, .dbi, .tbl, .rtk, .prc])).comp (restartHovWarm_touches _)
    (cs := [.sub, .hov, .bsd, .rch, .dbi, .tbl, .rtk, .prc])).comp (restartBsdWarm_touches _)

theorem warmBlocks_cfg : (warmBlocks b s).cfg = restartCfg b := warmBlocks_after_ports b s .cfg (by decide)

theorem warmBlocks_slc : (warmBlocks b s).slc = { s.slc with hold := s.terminalHold && terminalStraps b.straps } :=
  warmBlocks_after_ports b s .slc (by decide)

theorem warmBlocks_tch : (warmBlocks b s).tch = .reset := warmBlocks_after_ports b s .tch (by decide)

theorem warmBlocks_timebase : (warmBlocks b s).timebase = s.timebase :=
  warmBlocks_touches b s .timebase (by decide)

theorem restartWarmNow_cfg : (restartWarmNow b s).cfg = restartCfg b := by
  rw [restartWarmNow_eq, restartPrc_cfg, restartSlc_touches _ .cfg (by decide), warmBlocks_cfg]

end

theorem rejectsRecord_eight (own : Nat) (b0 b1 b2 b3 b4 b5 b6 b7 : Byte) :
    rejectsRecord own [b0, b1, b2, b3, b4, b5, b6, b7] = true ↔
      b7 ≠ b0 ^^^ b1 ^^^ b2 ^^^ b3 ^^^ b4 ^^^ b5 ^^^ b6 ^^^ 0xA5#8 ∨
        ∃ b ∈ [b0, b1, b2, b3], 31 < b.toNat ∨ (own ≠ 0 ∧ b.toNat = own) := by
  have hcheck : recordCheck [b0, b1, b2, b3, b4, b5, b6, b7] =
      b0 ^^^ b1 ^^^ b2 ^^^ b3 ^^^ b4 ^^^ b5 ^^^ b6 ^^^ 0xA5#8 := by
    change 0xA5#8 ^^^ b0 ^^^ b1 ^^^ b2 ^^^ b3 ^^^ b4 ^^^ b5 ^^^ b6 = _
    ac_rfl
  simp only [rejectsRecord, hcheck, Bool.or_eq_true, bne_iff_ne, List.any_eq_true, Bool.and_eq_true, beq_iff_eq,
    decide_eq_true_eq]
  rfl

/-- Settles O5: a warm restart writes `restartCfg`, which reads the memory's record. -/
theorem neighbourListComesFromTheMemory : Obligations.NeighbourListComesFromTheMemory := by
  intro straps s
  refine ⟨⟨restartWarmNow ⟨straps, none⟩ s, rfl, ?_⟩, fun b0 b1 b2 b3 b4 b5 b6 b7 =>
    ⟨restartWarmNow ⟨straps, some [b0, b1, b2, b3, b4, b5, b6, b7]⟩ s, rfl, ?_⟩⟩
  · rw [restartWarmNow_cfg]
    exact ⟨rfl, rfl⟩
  · rw [restartWarmNow_cfg, ← rejectsRecord_eight]
    simp only [restartCfg, readMemory]
    split
    · next h => exact ⟨by simp [h], rfl⟩
    · next h => exact ⟨by simp [h], rfl⟩

theorem addressed_iff {s : State} {target : Nat} : s.addressed target = true ↔ target = s.own ∨ target = 0 := by
  simp [State.addressed]

theorem countMalformed_eq (s : State) :
    countMalformed s = { s with cfg := { s.cfg with malformed := min (s.cfg.malformed + 1) 65535 } } := rfl

/-- Settles O6: the frame is heard first; then its target, and at a RESTART that names no kind the kind, decide. -/
theorem restartFramesActByTargetAndKind : Obligations.RestartFramesActByTargetAndKind := by
  intro n target kind b s u counted
  refine ⟨fun hhere => ?_, fun hown hzero => ?_, fun hhere hwarm hcold => ?_, rfl⟩
  · exact congrArg Host.Outcome.next (if_pos (addressed_iff.2 hhere))
  · have haway : (hear n s).addressed target = false := Bool.eq_false_iff.2 fun h => (addressed_iff.1 h).elim hown hzero
    exact ⟨congrArg Host.Outcome.next (if_neg (by simp [haway])), congrArg Host.Outcome.next (if_neg (by simp [haway])),
      congrArg Host.Outcome.next (if_neg (by simp [haway]))⟩
  · exact congrArg Host.Outcome.next (if_pos (by
      simp only [show (hear n s).addressed target = true from addressed_iff.2 hhere]; simp [warmCode, coldCode, hwarm, hcold]))

/-- Settles O8: at a warm restart shore link control is let go under the new straps, and brought up again where it was past
OFF and the plan still held wants it. -/
theorem warmRestartLetsTheLinkGo : Obligations.WarmRestartLetsTheLinkGo := by
  intro b s
  refine ⟨restartWarmNow b s, rfl, ?_⟩
  obtain ⟨e, hdbi⟩ := warmBlocks_dbi b s
  have hterminal : (warmBlocks b s).isTerminal = (b.straps.terminalPresent && b.straps.station != 0) := by
    rw [State.isTerminal, warmBlocks_cfg]; rfl
  have hphase : (warmBlocks b s).slc.phase = s.slc.phase := by rw [warmBlocks_slc]
  have hlink : (warmBlocks b s).dbi.link = none := by rw [hdbi]; rfl
  have hquiet : ∀ h : (warmBlocks b s).isTerminal = false ∨ s.slc.phase = .none ∨ s.slc.phase = .off,
      (restartWarmNow b s).slc = (linkLetGo (warmBlocks b s)).slc ∧ (restartWarmNow b s).tch.queue = [] ∧
        (restartWarmNow b s).dbi.link = none := fun h => by
    rw [← hphase] at h
    rw [restartWarmNow_eq, restartPrc_slc, restartPrc_tch, restartPrc_dbi, restartSlc_of_quiet h]
    exact ⟨rfl, by rw [show (linkLetGo (warmBlocks b s)).tch = _ from warmBlocks_tch b s]; rfl, hlink⟩
  have hwanted : (warmBlocks b s).wantedByPlan = true ↔
      b.straps.linkId ≠ 0 ∧ (b.straps.linkId = s.rtk.planLink ∨ b.straps.linkId = s.rtk.nextPlanLink) := by
    simp [State.wantedByPlan, State.ownLink, warmBlocks_cfg, warmBlocks_rtk, restartCfg]
  have hdown : ∀ h : (warmBlocks b s).isTerminal = true,
      (announce (.down false) (deactivate (linkLetGo (warmBlocks b s)))).dbi.link =
        some ⟨⟨b.straps.linkId, s.terminalHold, .down false⟩, 0, s.timebase⟩ := fun h => by
    have hhold : (warmBlocks b s).slc.hold = s.terminalHold := by
      rw [warmBlocks_slc]
      rw [State.isTerminal, warmBlocks_cfg] at h
      exact (congrArg (s.terminalHold && ·) h).trans (Bool.and_true _)
    rw [announceDown_of_empty h hlink]
    dsimp only
    rw [hhold, warmBlocks_cfg, warmBlocks_timebase]
    rfl
  have hqueue : (deactivate (linkLetGo (warmBlocks b s))).tch =
      (Chan.reset : Chan TerminalDirective).enqueue 4 false .deactivate := by
    change (warmBlocks b s).tch.enqueue 4 (!(warmBlocks b s).tch.markHold) _ = _
    rw [warmBlocks_tch]
    rfl
  refine ⟨fun hno => ?_, fun hyes hfound => ?_, fun hyes hoff hnone hplan => ?_, fun hyes hoff hnone hplan hsettle => ?_⟩
  · have hno : (warmBlocks b s).isTerminal = false := by
      rw [hterminal, Bool.eq_false_iff]
      simpa using hno
    obtain ⟨hslc, htch, hdb⟩ := hquiet (.inl hno)
    refine ⟨?_, htch, hdb⟩
    rw [hslc]
    exact if_neg (by simp [hno])
  all_goals have hyes : (warmBlocks b s).isTerminal = true := by rw [hterminal]; simpa using hyes
  · obtain ⟨hslc, htch, hdb⟩ := hquiet (.inr hfound.symm)
    refine ⟨?_, ?_, htch, hdb⟩
    · rw [hslc]; exact if_pos hyes
    · rw [hslc]; rfl
  all_goals
    rw [restartWarmNow_eq, restartPrc_slc, restartPrc_tch, restartPrc_dbi,
      restartSlc_of_active hyes (by rw [hphase]; exact hnone) (by rw [hphase]; exact hoff)]
  · rw [if_neg fun h => hplan (hwanted.1 h)]
    refine ⟨?_, ?_, ?_, hdown hyes⟩
    · rw [announceDown_of_empty hyes hlink]; exact if_pos hyes
    · rw [announceDown_of_empty hyes hlink]; rfl
    · rw [announceDown_of_empty hyes hlink]
      exact congrArg Chan.queue hqueue
  · rw [if_pos (hwanted.2 hplan)]
    have hrow : (announce (.down false) (deactivate (linkLetGo (warmBlocks b s)))).ownLinkRow.settleTime ≠ 0 := by
      rw [announceDown_of_empty hyes hlink]
      change ((warmBlocks b s).tbl.links.getD (warmBlocks b s).cfg.straps.linkId LinkRow.zero).settleTime ≠ 0
      rw [warmBlocks_tbl, warmBlocks_cfg]
      exact hsettle
    obtain ⟨hp, ha, hq, hd⟩ := activate_of_settling hrow
    refine ⟨hp, ha, ?_, by rw [hd]; exact hdown hyes⟩
    rw [hq, announceDown_of_empty hyes hlink]
    change (Chan.enqueue 4 (!(deactivate (linkLetGo (warmBlocks b s))).tch.markHold) _
      (deactivate (linkLetGo (warmBlocks b s))).tch).queue = _
    rw [hqueue]
    rfl

end Sys2Proof.Machine
end

section
/-! The two restarts that clear or keep the blocks (R190, Table 11.1): RESTART COLD and the restart pin. -/

-- One theorem after another: all at once take more threads than the check's memory holds.
set_option Elab.async false

namespace Sys2Proof.Machine

/-! ## RESTART COLD -/

section
variable (b : Board) (s : State)

/-- With no route there is no plan, and a cold restart brings no link up. -/
theorem coldBlocks_unwanted : (coldBlocks b s).wantedByPlan = false := by
  simp [State.wantedByPlan, coldBlocks, Rtk.reset]

theorem coldBlocks_phase : (coldBlocks b s).slc.phase = s.slc.phase := rfl

/-- Shore link control after a cold restart: let go, and DEACTIVATE with a LINK DOWN where it was past OFF. -/
theorem restartSlc_cold :
    (restartSlc (coldBlocks b s)).slc = (linkLetGo (coldBlocks b s)).slc ∧
      (restartSlc (coldBlocks b s)).tch =
        { (Chan.reset : Chan TerminalDirective) with queue := (restartSlc (coldBlocks b s)).tch.queue } ∧
      (restartSlc (coldBlocks b s)).dbi = { Dbi.reset with link := (restartSlc (coldBlocks b s)).dbi.link } := by
  by_cases hquiet : (coldBlocks b s).isTerminal = false ∨ (coldBlocks b s).slc.phase = .none ∨
      (coldBlocks b s).slc.phase = .off
  · rw [restartSlc_of_quiet hquiet]
    exact ⟨rfl, rfl, rfl⟩
  · simp only [not_or, Bool.not_eq_false] at hquiet
    obtain ⟨hterminal, hnone, hoff⟩ := hquiet
    rw [restartSlc_of_active hterminal hnone hoff, if_neg (by rw [coldBlocks_unwanted]; nofun),
      announceDown_of_empty hterminal rfl]
    exact ⟨rfl, rfl, rfl⟩

theorem restartSlc_cold_quiet (h : (coldBlocks b s).isTerminal = false ∨ s.slc.phase = .off ∨ s.slc.phase = .none) :
    (restartSlc (coldBlocks b s)).tch.queue = [] ∧ (restartSlc (coldBlocks b s)).dbi.link = none := by
  rw [restartSlc_of_quiet (h.imp_right Or.symm)]
  exact ⟨rfl, rfl⟩

theorem restartSlc_cold_active (hterminal : (coldBlocks b s).isTerminal = true) (hoff : s.slc.phase ≠ .off)
    (hnone : s.slc.phase ≠ .none) :
    (restartSlc (coldBlocks b s)).tch.queue = [.deactivate] ∧ (restartSlc (coldBlocks b s)).dbi.link =
      some ⟨⟨b.straps.linkId, s.terminalHold, .down false⟩, 0, s.timebase⟩ := by
  have hhold : (coldBlocks b s).slc.hold = s.terminalHold :=
    (congrArg (s.terminalHold && ·) hterminal).trans (Bool.and_true _)
  rw [restartSlc_of_active hterminal hnone hoff, if_neg (by rw [coldBlocks_unwanted]; nofun),
    announceDown_of_empty hterminal rfl, hhold]
  exact ⟨rfl, rfl⟩

theorem restartSlc_rch : (restartSlc s).rch = s.rch ∧ (restartSlc s).radioFault = s.radioFault :=
  restartSlc_touches s .rch (by decide)

end

/-- Settles O9: a cold restart sets each block to its reset value; what waits after it is what shore link control and the
cover set have let go. -/
theorem coldRestartClearsEveryBlock : Obligations.ColdRestartClearsEveryBlock := by
  intro n target b s u terminal hhere
  obtain ⟨hslc, htch, hdbi⟩ := restartSlc_cold b u
  obtain ⟨hrch, hfault⟩ := restartSlc_rch (coldBlocks b u)
  have hcover : RosterLaw (restartColdNow b u) ∧ CoverLaw (restartColdNow b u) :=
    coverSound_iff.1 (restartPrc_coverSound (restartSlc (coldBlocks b u)))
  have htime : (hear n s).timebase = s.timebase := hear_touches n s .timebase (by decide)
  have hpins : (hear n s).radioHold = s.radioHold ∧ (hear n s).terminalHold = s.terminalHold :=
    hear_touches n s .pins (by decide)
  have hprc : (restartColdNow b u).prc = .reset s.timebase b.straps.station (restartCfg b).neighbours := by
    rw [restartColdNow_eq, restartPrc_prc, State.own, restartSlc_touches _ .cfg (by decide),
      restartSlc_touches _ .timebase (by decide)]
    exact congrArg (Prc.reset · b.straps.station (restartCfg b).neighbours) htime
  have hafter : Touches [.prc, .slc, .tch, .dbi, .rch] (coldBlocks b u) (restartColdNow b u) :=
    (restartSlc_touches _).comp (restartPrc_touches _)
  have hcfg : (restartColdNow b u).cfg = restartCfg b := hafter .cfg (by decide)
  refine ⟨restartColdNow b u, congrArg Host.Outcome.next (if_pos (addressed_iff.2 hhere)),
    (hafter .timebase (by decide)).trans htime, (hafter .pins (by decide)).1.trans hpins.1,
    (hafter .pins (by decide)).2.trans hpins.2, by rw [hcfg]; rfl, by rw [hcfg]; rfl, by rw [hcfg]; rfl,
    hafter .sub (by decide), hafter .hov (by decide), hafter .bsd (by decide), hafter .rtk (by decide),
    hafter .tbl (by decide), ?slc, by rw [hprc]; rfl, by rw [hprc]; rfl, by rw [hprc]; rfl, by rw [hprc]; rfl,
    by rw [hprc]; rfl, by rw [hprc]; rfl, by rw [hprc]; rfl, by rw [hprc]; rfl, by rw [hprc]; rfl, by rw [hprc]; rfl,
    hcover.1, by rw [hprc]; exact reset_unheard, ?dbi, ?tch, ?rch, fun hmembers => ?queue, fun hterm hoff hnone => ?active,
    fun hquiet => ?quiet⟩
  all_goals rw [restartColdNow_eq]
  case slc =>
    rw [restartPrc_slc, hslc]
    simp only [linkLetGo, coldBlocks, hpins.2, u]
    rfl
  case dbi => rw [restartPrc_dbi]; exact hdbi
  case tch => rw [restartPrc_tch]; exact htch
  case rch =>
    obtain ⟨q, k, hheld⟩ := queueAll_held (restartSlc (coldBlocks b u)).prc.letGo _ (by rw [hrch]; rfl)
    rw [(restartPrc_rch _).1, hheld, hrch]
    rfl
  case queue =>
    have hmembersOf : (restartSlc (coldBlocks b u)).prc = u.prc := restartSlc_touches _ .prc (by decide)
    obtain ⟨hqueue, hdrops, hno⟩ := restartPrc_room (restartSlc (coldBlocks b u)) (by rw [hrch]; rfl)
      (by rw [hmembersOf]; exact hmembers)
    rw [hmembersOf] at hqueue
    exact ⟨hdrops.trans (by rw [hrch]; rfl), hno.trans (by rw [hfault]; rfl), hqueue⟩
  case active =>
    rw [restartPrc_tch, restartPrc_dbi]
    obtain ⟨hqueue, hlink⟩ := restartSlc_cold_active b u hterm hoff hnone
    refine ⟨hqueue, hlink.trans ?_⟩
    rw [htime, hpins.2]
  case quiet =>
    rw [restartPrc_tch, restartPrc_dbi]
    exact restartSlc_cold_quiet b u hquiet

/-! ## A warm restart's closes (R23, R58, R59) -/

/-- The departure of an entry closed now: its key with its K after the final rating (R58). -/
def State.departureOf (s : State) (old : Entry) : Departure :=
  let e := old.rate true (s.prices s.rtk.zone s.slc.ratingLink old.partner)
  ⟨old.key, e.k, e.capReached, s.timebase⟩

theorem State.prices_congr {s t : State} (htbl : t.tbl = s.tbl) (zone link partner : Nat) :
    t.prices zone link partner = s.prices zone link partner := by
  simp only [State.prices, State.partnerRow, htbl]

theorem State.departureOf_congr {s t : State} (htbl : t.tbl = s.tbl) (hrtk : t.rtk = s.rtk) (hslc : t.slc = s.slc)
    (htime : t.timebase = s.timebase) (e : Entry) : t.departureOf e = s.departureOf e := by
  simp only [State.departureOf, State.prices_congr htbl, hrtk, hslc, htime]

theorem joinDepartures_fst (d : Departure) (l : List Departure) :
    (joinDepartures d l).1 =
      (if 32 ≤ (l.filter (fun x => x.key != d.key)).length then (l.filter (fun x => x.key != d.key)).drop 1
        else l.filter (fun x => x.key != d.key)) ++ [d] := by
  by_cases h : 32 ≤ (l.filter (fun x => x.key != d.key)).length
  · simp [joinDepartures, Config.departurePlaces, h]
  · simp [joinDepartures, Config.departurePlaces, h]

theorem closeSlot_departures {s : State} {i : Nat} {old : Entry} {cause : Cause} (hcause : cause.departs = true)
    (quiet : Bool) (h : s.slot i = .opened old) :
    (closeSlot cause quiet i s).hov.departures = (joinDepartures (s.departureOf old) s.hov.departures).1 := by
  rw [closeSlot_hov h, if_pos hcause]
  rfl

/-- A sweep at a cause that departs puts the key of each open entry into the departure list, in order (R58, R59). -/
theorem closeAll_departures {cause : Cause} (hcause : cause.departs = true) (quiet : Bool) (l : List Nat) (hl : l.Nodup)
    (s : State) :
    (closeAll cause quiet l s).hov.departures =
      (l.filterMap fun i => (s.entry? i).map s.departureOf).foldl (fun list d => (joinDepartures d list).1)
        s.hov.departures := by
  induction l generalizing s with
  | nil => rfl
  | cons i rest ih =>
    obtain ⟨hi, hrest⟩ := List.nodup_cons.1 hl
    change (closeAll cause quiet rest (closeSlot cause quiet i s)).hov.departures = _
    have hclose := closeSlot_touches cause quiet i s
    rw [ih hrest, List.filterMap_cons]
    by_cases hopen : ∃ e, s.slot i = .opened e
    · obtain ⟨e, he⟩ := hopen
      obtain ⟨-, hothers, -⟩ := closeSlot_orders cause quiet he
      have hsame : rest.filterMap (fun j => ((closeSlot cause quiet i s).entry? j).map
          (closeSlot cause quiet i s).departureOf) = rest.filterMap fun j => (s.entry? j).map s.departureOf := by
        refine List.filterMap_congr fun j hj => ?_
        rw [State.entry?, hothers j fun h => hi (h ▸ hj), ← State.entry?]
        exact congrArg (fun f => (s.entry? j).map f) (funext fun x => State.departureOf_congr
          (hclose .tbl (by decide)) (hclose .rtk (by decide)) (hclose .slc (by decide)) (hclose .timebase (by decide)) x)
      have hentry : s.entry? i = some e := by rw [State.entry?, he]
      rw [hsame, hentry, closeSlot_departures hcause quiet he]
      rfl
    · simp only [not_exists] at hopen
      have hentry : s.entry? i = none := by
        unfold State.entry?; split
        · next e he => exact absurd he (hopen e)
        · rfl
      rw [hentry, closeSlot_not_open cause quiet hopen]
      rfl

theorem closeSlot_quiet_touches (cause : Cause) (i : Nat) (s : State) :
    Touches [.sub, .hov, .bsd] s (closeSlot cause true i s) := by
  unfold closeSlot
  have hrate : Touches [.sub] s (rateSlot true true s.rtk.zone s.slc.ratingLink i s) := by
    unfold rateSlot; split
    · dsimp only
      rw [Bool.not_true, Bool.and_false]
      exact setSlot_touches _ _ _
    · exact .refl _ _
  refine hrate.comp (bs := [.sub, .hov, .bsd]) ?_
  unfold finishClose; split
  · extract_lets r _ s1 s2 s3
    have h1 : Touches [.sub] (rateSlot true true s.rtk.zone s.slc.ratingLink i s) s1 := .sub _ _
    have h2 : Touches [.hov] s1 s2 := .ite _ (departureJoin_touches _ _) (.refl _ _)
    have h3 : s3 = s2 := by simp [s3]
    rw [h3]
    exact (h1.comp h2 (cs := [.sub, .hov])).comp (.ite _ (offerFinal_touches _ _ _) (setSlot_touches _ _ _).mono)
  · exact .refl _ _

/-- The closes of a warm restart send nothing (R23). -/
theorem sweep_quiet_touches (cause : Cause) (s : State) : Touches [.sub, .hov, .bsd] s (sweep cause true s) :=
  .foldl _ (fun t i => closeSlot_quiet_touches cause i t) _ _

/-! ## The restart pin -/

theorem settled_dbi (s : State) : ∃ l b, (settled s).dbi = { s.dbi with link := l, linkBeside := b } := by
  unfold settled
  dsimp only
  split
  · exact ⟨_, _, rfl⟩
  · exact announce_dbi _ _

theorem activate_dbi (s : State) : ∃ l b, (activate s).dbi = { s.dbi with link := l, linkBeside := b } := by
  unfold activate
  extract_lets s1 _ _ s2
  split
  · exact settled_dbi s2
  · exact ⟨_, _, rfl⟩

/-- Of the transmit queues a restart's step of shore link control moves the LINK alone. -/
theorem restartSlc_dbi (s : State) : ∃ l b, (restartSlc s).dbi = { s.dbi with link := l, linkBeside := b } := by
  unfold restartSlc
  extract_lets found _ s1 s2
  obtain ⟨l, b, h2⟩ : ∃ l b, s2.dbi = { s.dbi with link := l, linkBeside := b } := announce_dbi _ _
  split
  · split
    · obtain ⟨l', b', h⟩ := activate_dbi s2
      exact ⟨l', b', by rw [h, h2]⟩
    · exact ⟨l, b, h2⟩
  · exact ⟨_, _, rfl⟩

/-- Whether the terminal channel is UP is no matter of what is queued to it. -/
theorem terminalUp_shared (up : Bool) : KeptByShared fun t => t.tch.up = up where
  frame ht h := by rw [ht .tch (by decide)]; exact h
  malformed h := h
  queueRadio _ _ h := h
  queueTerminal d s h := by rw [queueTerminal_tch, Chan.enqueue_up]; exact h
  restartSilence _ _ h := h
  terminalPin _ _ h := h
  announce a s h := by rw [announce_tch]; exact h
  offerBeacon {s} h := by rw [offerBeacon_touches s .tch (by decide)]; exact h
  rateSlot _ _ _ _ _ s h := by rw [rateSlot_touches _ _ _ _ _ s .tch (by decide)]; exact h
  offerInterval _ _ s h := by rw [offerInterval_touches _ _ s .tch (by decide)]; exact h
  finishClose _ _ _ s h := by rw [finishClose_touches _ _ _ s .tch (by decide)]; exact h

section
variable (b : Board) (s : State)

/-- The state in which a warm restart closes its entries. -/
def warmBase : State := restartRtkWarm (restartTblWarm (restartPorts b s))

/-- The state in which a warm restart finds the drain. -/
def warmClosed : State := restartHovWarm (restartSubWarm (warmBase b s))

theorem warmBlocks_eq : warmBlocks b s = restartBsdWarm (warmClosed b s) := rfl

theorem warmClosed_touches : Touches [.sub, .hov, .bsd] (warmBase b s) (warmClosed b s) :=
  ((sweep_quiet_touches .dormant (warmBase b s)).comp (Touches.sub _ _) (cs := [.sub, .hov, .bsd])).comp
    (restartHovWarm_touches _)

/-- The closes of a warm restart leave the tally and the drain and add records to the store's tail. -/
theorem warmClosed_drainKept : DrainKept (warmBase b s) (warmClosed b s) :=
  ((drainKept_shared (warmBase b s)).sweep .dormant true (.refl _)).congr rfl rfl rfl

theorem warmBlocks_hov : (warmBlocks b s).hov = (warmClosed b s).hov := restartBsdWarm_touches _ .hov (by decide)
theorem warmBlocks_sub : (warmBlocks b s).sub = (warmClosed b s).sub := restartBsdWarm_touches _ .sub (by decide)

theorem warmBlocks_rch : (warmBlocks b s).rch = .reset ∧ (warmBlocks b s).radioFault = false := by
  obtain ⟨h1, h2⟩ := restartBsdWarm_touches (warmClosed b s) .rch (by decide)
  obtain ⟨h3, h4⟩ := warmClosed_touches b s .rch (by decide)
  exact ⟨h1.trans h3, h2.trans h4⟩

theorem warmBlocks_prc : (warmBlocks b s).prc = { s.prc with dwellUntil := none, pendingWake := false } :=
  (restartBsdWarm_touches _ .prc (by decide)).trans (warmClosed_touches b s .prc (by decide))

theorem restartBsdWarm_bsd : (restartBsdWarm s).bsd = { s.bsd with drain := (restartBsdWarm s).bsd.drain } := by
  unfold restartBsdWarm; split
  · rfl
  · rw [endDrain_bsd]
  · rw [endDrain_bsd]

/-- A drain found running or ending is ended HALTED with the records sent so far (R81). -/
theorem restartBsdWarm_of_started {sent : Nat} (h : (∃ left, s.bsd.drain = .running left sent) ∨
    ∃ waiting, s.bsd.drain = .ending sent waiting) : restartBsdWarm s = endDrain .halted sent s := by
  unfold restartBsdWarm
  obtain ⟨left, h⟩ | ⟨waiting, h⟩ := h <;> rw [h]

/-- The departure list after a warm restart. -/
theorem warmClosed_departures (horders : OrdersLaw s) :
    (warmClosed b s).hov.departures =
      (s.sub.attachOrder.filterMap fun i => (s.entry? i).map s.departureOf).foldl
        (fun list d => (joinDepartures d list).1) s.hov.departures :=
  closeAll_departures (cause := .dormant) rfl true _ horders.2.1 (warmBase b s)

/-- What a restart's last two steps leave of the blocks before them. -/
theorem restartTail_touches : Touches [.slc, .tch, .dbi, .prc, .rch] s (restartPrc (restartSlc s)) :=
  (restartSlc_touches s).comp (restartPrc_touches _)

end

theorem drainEnd_restartTail (s : State) : (restartPrc (restartSlc s)).dbi.drainEnd = s.dbi.drainEnd := by
  obtain ⟨l, b, h⟩ := restartSlc_dbi s
  rw [restartPrc_dbi, h]

/-- Settles O7: the entries are closed in the state that the ports and the counts have left (`warmBase`), the drain is ended
in the one that the closes leave (`warmClosed`), and shore link control and the coverage block take their steps last. -/
theorem warmRestartKeepsAndCloses : Obligations.WarmRestartKeepsAndCloses := by
  refine ⟨fun b s horders => ?keeps, fun b s => ?drain⟩
  case keeps =>
    have hjoin : (fun (list : List Departure) (d : Departure) =>
        let others := list.filter (fun x => x.key != d.key)
        (if 32 ≤ others.length then others.drop 1 else others) ++ [d]) = fun list d => (joinDepartures d list).1 := by
      funext list d
      exact (joinDepartures_fst d list).symm
    have htail := restartTail_touches (warmBlocks b s)
    obtain ⟨hshut, hattach, hclosing⟩ := warmBlocks_closed b horders
    have hsub : (restartWarmNow b s).sub = (warmBlocks b s).sub := htail .sub (by decide)
    have hhov : (restartWarmNow b s).hov = (warmClosed b s).hov := (htail .hov (by decide)).trans (warmBlocks_hov b s)
    have hkept := warmClosed_drainKept b s
    have hbsd : (restartWarmNow b s).bsd =
        { (warmClosed b s).bsd with drain := (restartBsdWarm (warmClosed b s)).bsd.drain } :=
      (htail .bsd (by decide)).trans (restartBsdWarm_bsd (warmClosed b s))
    have hview := restartSlc_viewPart (warmBlocks b s)
    simp only [State.viewPart, Prod.mk.injEq] at hview
    obtain ⟨hview, hshore, hgate, hrating⟩ := hview
    have hslc : (restartWarmNow b s).slc = (restartSlc (warmBlocks b s)).slc := restartPrc_slc _
    have hprc : (restartWarmNow b s).prc = .reset s.timebase b.straps.station (restartCfg b).neighbours := by
      rw [restartWarmNow_eq, restartPrc_prc, State.own, restartSlc_touches _ .cfg (by decide), warmBlocks_cfg,
        restartSlc_touches _ .timebase (by decide), warmBlocks_timebase]
      rfl
    obtain ⟨e, hdbi⟩ := warmBlocks_dbi b s
    obtain ⟨l, l', hlink⟩ := restartSlc_dbi (warmBlocks b s)
    have hdbi : (restartWarmNow b s).dbi = { Dbi.reset with drainEnd := e, link := l, linkBeside := l' } := by
      rw [restartWarmNow_eq, restartPrc_dbi, hlink, hdbi]
    have htch : (restartWarmNow b s).tch.up = false := by
      rw [restartWarmNow_eq, restartPrc_tch, (terminalUp_shared _).restartSlc rfl, warmBlocks_tch]; rfl
    obtain ⟨hrch, hfault⟩ := restartSlc_rch (warmBlocks b s)
    obtain ⟨hrch0, hfault0⟩ := warmBlocks_rch b s
    have hcover : (restartSlc (warmBlocks b s)).prc = (warmBlocks b s).prc := restartSlc_touches _ .prc (by decide)
    refine ⟨restartWarmNow b s, rfl, by rw [restartWarmNow_cfg]; rfl, by rw [restartWarmNow_cfg]; rfl,
      restartWarmNow_tbl s b, restartWarmNow_rtk s b, by rw [hsub]; exact hattach,
      fun i => by rw [State.slot_congr (s := warmBlocks b s) (by rw [hsub])]; exact hshut i,
      by rw [hsub, warmBlocks_sub]; rfl, by rw [hsub]; exact hclosing, ?departures, by rw [hhov]; rfl, by rw [hhov]; rfl,
      by rw [hhov]; rfl, by rw [hbsd]; exact hkept.store, by rw [hbsd]; exact hkept.tallyWord,
      by rw [hbsd]; exact hkept.tallyCount, by rw [hslc, hview], by rw [hslc, hshore], by rw [hslc, hgate],
      by rw [hslc, hrating, warmBlocks_slc], by rw [hprc]; rfl, by rw [hprc]; rfl, by rw [hprc]; rfl, by rw [hprc]; rfl,
      by rw [hprc]; rfl, by rw [hprc]; rfl, by rw [hprc]; rfl, by rw [hprc]; rfl, by rw [hprc]; rfl,
      by rw [hprc]; exact reset_unheard, by rw [hdbi]; rfl, by rw [hdbi]; rfl, by rw [hdbi]; rfl, by rw [hdbi]; rfl,
      by rw [hdbi]; rfl, ?up, htch, fun hmembers => ?queue⟩
    case departures =>
      rw [hhov, warmClosed_departures b s horders]
      exact congrArg (fun f => List.foldl f s.hov.departures
        (s.sub.attachOrder.filterMap fun i => (s.entry? i).map s.departureOf)) hjoin.symm
    case up =>
      obtain ⟨q, k, hheld⟩ := queueAll_held (restartSlc (warmBlocks b s)).prc.letGo (restartSlc (warmBlocks b s))
        (by rw [hrch, hrch0]; rfl)
      rw [restartWarmNow_eq, (restartPrc_rch _).1, hheld, hrch, hrch0]
      rfl
    case queue =>
      obtain ⟨hqueue, -, hno⟩ := restartPrc_room (restartSlc (warmBlocks b s)) (by rw [hrch, hrch0]; rfl)
        (by rw [hcover, warmBlocks_prc]; exact hmembers)
      exact ⟨hno.trans (hfault.trans hfault0), hqueue.trans (by rw [hcover, warmBlocks_prc]; rfl)⟩
  case drain =>
    have htail := restartTail_touches (warmBlocks b s)
    have hbsd : (restartWarmNow b s).bsd = (restartBsdWarm (warmClosed b s)).bsd := htail .bsd (by decide)
    have hend : (restartWarmNow b s).dbi.drainEnd = (restartBsdWarm (warmClosed b s)).dbi.drainEnd :=
      drainEnd_restartTail (warmBlocks b s)
    have hkept := warmClosed_drainKept b s
    have hdrain : (warmClosed b s).bsd.drain = s.bsd.drain := hkept.drain
    refine ⟨restartWarmNow b s, rfl, fun hidle => ?_, fun sent hstarted => ?_⟩
    · have hsame : restartBsdWarm (warmClosed b s) = warmClosed b s := by
        unfold restartBsdWarm; rw [hdrain, hidle]
      rw [hbsd, hend, hsame]
      exact ⟨hdrain.trans hidle, hkept.drainEnd⟩
    · rw [hbsd, hend, restartBsdWarm_of_started (warmClosed b s) (by rw [hdrain]; exact hstarted)]
      refine ⟨by rw [endDrain_bsd], fun hown => ?_⟩
      have hblocks := warmClosed_touches b s
      have hcfg : (warmClosed b s).cfg = restartCfg b := hblocks .cfg (by decide)
      have hrtk : (warmClosed b s).rtk = (warmBase b s).rtk := hblocks .rtk (by decide)
      have htime : (warmClosed b s).timebase = s.timebase := hblocks .timebase (by decide)
      rw [endDrain_of_own (by rw [State.own, hcfg]; exact hown)]
      simp only [hrtk, htime, hkept.tallyWord, hkept.tallyCount]
      rfl

end Sys2Proof.Machine
end

section
/-! Marks, expiries, the ranking of carriers, errors, and frames heard for the roster alone (R60, R82 to R87, R114, R130,
R155, R162, R176, R177, R195). -/

-- One theorem after another: all at once take more threads than the check's memory holds.
set_option Elab.async false

namespace Sys2Proof.Machine

/-! ## Marks (Table 5.2) -/

section
variable {s : State} {leg : Nat}

theorem moveLeg_rtk_leg : (moveLeg leg s).rtk.leg = leg := by
  unfold moveLeg; split
  · next h => exact h.symm
  · rw [legEvaluation_rtk]

/-- A leg that moves leaves the slips, the bad marks and the voyage number. -/
theorem moveLeg_counts : (moveLeg leg s).rtk.slipCount = s.rtk.slipCount ∧
    (moveLeg leg s).rtk.slipUntil = s.rtk.slipUntil ∧ (moveLeg leg s).rtk.badMarks = s.rtk.badMarks ∧
    (moveLeg leg s).rtk.voyage = s.rtk.voyage := by
  unfold moveLeg; split
  · exact ⟨rfl, rfl, rfl, rfl⟩
  · rw [legEvaluation_rtk]
    exact ⟨rfl, rfl, rfl, rfl⟩

theorem takeMark_of_no_route (h : s.tbl.route.length = 0) : takeMark leg s = s := if_pos h

theorem takeMark_of_bad (hroute : s.tbl.route.length ≠ 0) (hknown : leg ≠ 255)
    (hbad : 48 ≤ leg ∨ s.tbl.route.length ≤ leg) :
    takeMark leg s = { s with rtk := { s.rtk with badMarks := min (s.rtk.badMarks + 1) 65535 } } := by
  have hoff : (decide (s.tbl.route.length ≤ leg) || decide (48 ≤ leg)) = true := by simpa using hbad.symm
  rw [takeMark, if_neg hroute, if_neg (show leg ≠ Config.unknownLeg from hknown)]
  exact if_pos hoff

theorem takeMark_of_unknown (hroute : s.tbl.route.length ≠ 0) : takeMark 255 s = moveLeg s.nextLeg s := by
  rw [takeMark, if_neg hroute]
  exact if_pos rfl

/-- A leg on the route: nothing where it is the present one, and a slip first where it is not the next one. -/
theorem takeMark_of_good (hroute : s.tbl.route.length ≠ 0) (hlegs : leg < 48) (hlen : leg < s.tbl.route.length) :
    takeMark leg s = if leg = s.rtk.leg then s else if leg = s.nextLeg then moveLeg leg s
      else moveLeg leg (countSlip s) := by
  have hknown : leg ≠ Config.unknownLeg := by rw [Config.unknownLeg]; omega
  have hon : ¬ (decide (s.tbl.route.length ≤ leg) || decide (Config.maxLegs ≤ leg)) = true := by
    rw [Config.maxLegs]; simp; omega
  rw [takeMark, if_neg hroute, if_neg hknown, if_neg hon]

theorem takeMark_of_next (hroute : s.tbl.route.length ≠ 0) (hnext : leg = 255 ∨ (leg < 48 ∧ leg = s.nextLeg)) :
    takeMark leg s = moveLeg s.nextLeg s := by
  obtain rfl | ⟨hlegs, rfl⟩ := hnext
  · exact takeMark_of_unknown hroute
  · rw [takeMark_of_good hroute hlegs (Nat.mod_lt _ (Nat.pos_of_ne_zero hroute)), if_pos rfl, moveLeg]
    split <;> rfl

end

/-- Settles O12: the rows of Table 5.2 are `takeMark`'s branches; a leg that moves leaves the counts. -/
theorem marksMoveTheLeg : Obligations.MarksMoveTheLeg := by
  intro n leg s u len next
  refine ⟨fun h => congrArg Host.Outcome.next (takeMark_of_no_route h), fun hroute hknown hbad =>
    congrArg Host.Outcome.next (takeMark_of_bad hroute hknown hbad), fun hroute hlegs hlen hsame =>
    congrArg Host.Outcome.next ((takeMark_of_good hroute hlegs hlen).trans (if_pos hsame)), fun hroute hnext => ?_,
    fun hroute hlegs hlen hne hslip => ?_⟩
  · refine ⟨moveLeg u.nextLeg u, congrArg Host.Outcome.next (takeMark_of_next hroute hnext), moveLeg_rtk_leg, moveLeg_counts⟩
  · refine ⟨moveLeg leg (countSlip u), congrArg Host.Outcome.next
      (((takeMark_of_good hroute hlegs hlen).trans (if_neg hne)).trans (if_neg hslip)), moveLeg_rtk_leg, moveLeg_counts⟩

/-! ## Expiries -/

/-- Settles O15: each expiry reads its own time. -/
theorem flagsDeparturesAndHoldsExpire : Obligations.FlagsDeparturesAndHoldsExpire := by
  refine ⟨fun s => ⟨fun d hslip => ?_, fun hslip => ?_, fun d rest hlist => ?_, fun hlist => ?_⟩,
    fun p s => ⟨fun m d hm hmp hhold hdue => ?_, fun hnone => ?_⟩⟩
  · refine congrArg Host.Outcome.next ?_
    simp only [slipFlagExpired, hslip, due, decide_eq_true_eq]
  · refine congrArg Host.Outcome.next (if_neg ?_)
    rw [hslip]
    nofun
  · refine congrArg Host.Outcome.next ?_
    simp only [departureExpired, hlist]
    rfl
  · refine congrArg Host.Outcome.next ?_
    simp only [departureExpired, hlist]
  · refine congrArg Host.Outcome.next (if_pos (List.any_eq_true.2 ⟨m, hm, ?_⟩))
    simp [hmp, hhold, due, hdue]
  · refine congrArg Host.Outcome.next (if_neg fun h => ?_)
    obtain ⟨m, hm, hmp, hdue⟩ : ∃ m ∈ s.prc.cover, m.station = p ∧ due m.holdUntil s.timebase = true := by simpa using h
    rw [hnone m hm hmp] at hdue
    simp [due] at hdue

/-! ## The ranking of carriers (R114) -/

/-- The place of a carrier in the ranking: whether it is on another link than the plan's, then its link, then its station. -/
theorem outranks_iff (plan : Nat) (a b : Carrier) : outranks plan a b = true ↔
    (a.link = plan ∧ b.link ≠ plan) ∨ ((a.link = plan ↔ b.link = plan) ∧
      (a.link < b.link ∨ (a.link = b.link ∧ a.station < b.station))) := by
  unfold outranks
  split
  · next h =>
    simp only [bne_iff_ne, ne_eq, Bool.beq_eq_decide_eq, decide_eq_decide] at h
    simp only [beq_iff_eq]
    tauto
  · next h =>
    simp only [bne_iff_ne, ne_eq, Bool.beq_eq_decide_eq, decide_eq_decide, not_not] at h
    split
    · simp only [decide_eq_true_eq]
      tauto
    · simp only [decide_eq_true_eq]
      omega

theorem carrier_ext_iff (a b : Carrier) : a = b ↔ a.station = b.station ∧ a.link = b.link := by
  cases a; cases b; simp

/-- Settles O32: the ranking is the lexicographic order that `outranks_iff` spells out. -/
theorem rankingIsATotalOrder : Obligations.RankingIsATotalOrder := by
  intro plan a b c
  refine ⟨fun ha hb => (outranks_iff ..).2 (.inl ⟨ha, hb⟩), fun hplan hlink => (outranks_iff ..).2 (.inr ⟨hplan, .inl hlink⟩),
    fun hlink hstation => (outranks_iff ..).2 (.inr ⟨by rw [hlink], .inr ⟨hlink, hstation⟩⟩), ?irrefl, fun hne => ?total,
    fun hab hbc => ?trans⟩
  case irrefl =>
    rw [Bool.eq_false_iff, ne_eq, outranks_iff]
    omega
  case total =>
    rw [ne_eq, carrier_ext_iff] at hne
    rw [Bool.eq_iff_iff, Bool.not_eq_true', Bool.eq_false_iff, ne_eq, outranks_iff, outranks_iff]
    omega
  case trans =>
    rw [outranks_iff] at hab hbc ⊢
    omega

/-! ## Errors and malformed frames -/

theorem messageError_radio {s : State} {e : MessageError} (h : s.canErr e = true) :
    messageError .radio e s = { s with rch := s.rch.messageError s.timebase e } := if_neg (by simp [h])

theorem messageError_terminal {s : State} {e : MessageError} (h : s.canErr e = true) (hterminal : s.isTerminal = true) :
    messageError .terminal e s = { s with tch := s.tch.messageError s.timebase e } :=
  (if_neg (by simp [h])).trans (if_pos hterminal)

theorem messageError_held_off {s : State} (e : MessageError) (hterminal : s.isTerminal = false) :
    messageError .terminal e s = s := by
  simp [messageError, hterminal]

section
variable {δ : Type} (now : Nat) (c : Chan δ)

theorem Chan.messageError_of_bad {e : MessageError} (h : isGood e = false) :
    c.messageError now e = { c with receiver := .hunting, errors := min (c.errors + 1) 65535 } := by
  rw [Chan.messageError, if_neg (by simp [h])]
  rfl

theorem Chan.messageError_of_good {e : MessageError} (h : isGood e = true) :
    c.messageError now e = { c with
      receiver := .hunting, up := true, silenceFrom := some now, errors := min (c.errors + 1) 65535 } := by
  rw [Chan.messageError, if_pos h]
  rfl

end

theorem canErr_of_ne {s : State} {e : MessageError} (h : e ≠ .parity) : s.canErr e = true := by
  simp [State.canErr, h]

theorem canErr_parity {s : State} (h : s.cfg.straps.parity = true) : s.canErr .parity = true := by
  simp [State.canErr, h]

/-- Settles O11: a malformed payload is heard and counted, a failed check and a channel's error raise one count. -/
theorem errorsAndMalformedFramesAreCounted : Obligations.ErrorsAndMalformedFramesAreCounted := by
  refine ⟨fun n m s => ⟨rfl, rfl, rfl, rfl, rfl, rfl, rfl, rfl, rfl, fun hstarting => ?starting⟩,
    fun s => ⟨rfl, rfl, rfl, rfl, rfl, fun e he => ?bad, fun e he => ?good, rfl, fun hterminal => ?overrun,
      fun hterminal e => ?heldOff⟩⟩
  case starting =>
    have hnone : soundBeacon (some m) = none := by simp [soundBeacon, hstarting]
    simp only [exec, execBeaconHeard, hnone]
    rfl
  case bad =>
    have hcan : s.canErr e = true := by
      rcases he with rfl | rfl | rfl | ⟨rfl, hparity⟩
      · exact canErr_of_ne nofun
      · exact canErr_of_ne nofun
      · exact canErr_of_ne nofun
      · exact canErr_parity hparity
    have hbad : isGood e = false := by rcases he with rfl | rfl | rfl | ⟨rfl, -⟩ <;> rfl
    refine ⟨congrArg Host.Outcome.next ?_, fun hterminal => congrArg Host.Outcome.next ?_⟩
    · rw [messageError_radio hcan, Chan.messageError_of_bad _ _ hbad]
    · rw [messageError_terminal hcan hterminal, Chan.messageError_of_bad _ _ hbad]
  case good =>
    have hcan : s.canErr e = true := canErr_of_ne (by rcases he with rfl | rfl | rfl <;> nofun)
    have hgood : isGood e = true := by rcases he with rfl | rfl | rfl <;> rfl
    refine ⟨congrArg Host.Outcome.next ?_, fun hterminal => congrArg Host.Outcome.next ?_⟩
    · rw [messageError_radio hcan, Chan.messageError_of_good _ _ hgood]
    · rw [messageError_terminal hcan hterminal, Chan.messageError_of_good _ _ hgood]
  case overrun => exact congrArg Host.Outcome.next (if_pos hterminal)
  case heldOff =>
    exact ⟨congrArg Host.Outcome.next (messageError_held_off e hterminal),
      congrArg Host.Outcome.next (if_neg (by simp [hterminal]))⟩

/-! ## Frames heard for the roster alone -/

theorem endWindow_eq (n : Nat) (s : State) :
    endWindow n s = { s with tbl := { s.tbl with window := s.tbl.window.filter (fun w => w.sender != n) } } := by
  unfold endWindow
  split
  · next hw =>
    have hsame : s.tbl.window.filter (fun w => w.sender != n) = s.tbl.window := by rw [hw]; rfl
    rw [hsame]
  · next w hw =>
    split
    · next hsender =>
      have hnone : s.tbl.window.filter (fun w => w.sender != n) = none := by simp [hw, Option.filter, hsender]
      rw [hnone]
      rfl
    · next hsender =>
      have hsame : s.tbl.window.filter (fun w => w.sender != n) = s.tbl.window := by simp [hw, Option.filter, hsender]
      rw [hsame]

/-- The roster entry of a station heard now, its copied fields kept (R130). -/
def Peer.presentAt (now : Nat) (e : Peer) : Peer := { e with state := .present, lastHeard := some now }

@[simp] theorem Peer.presentAt_station (now : Nat) (e : Peer) : (e.presentAt now).station = e.station := rfl
@[simp] theorem Peer.presentAt_beacon (now : Nat) (e : Peer) : (e.presentAt now).beacon = e.beacon := rfl
@[simp] theorem Peer.presentAt_state (now : Nat) (e : Peer) : (e.presentAt now).state = .present := rfl

section
variable {s : State} {n : Nat} {e : Peer}

/-- A frame without copied fields heard from a station of the roster. -/
theorem heardFrom_of_peer (hown : n ≠ s.own) (hpeer : s.peer? n = some e) :
    heardFrom n none s =
      changePeer e (e.presentAt s.timebase) false false s := by
  rw [heardFrom, if_neg hown, hpeer]
  rfl

/-- The roster's entries after one of them is written. -/
theorem peer?_setPeer {t : State} {new : Peer}
    (hroster : t.prc.roster = s.prc.roster.map (fun x => if x.station = new.station then new else x)) (p : Nat) :
    t.peer? p = (s.peer? p).map (fun x => if x.station = new.station then new else x) := by
  rw [State.peer?, hroster, List.find?_map, State.peer?]
  congr 1
  refine congrArg (fun f => s.prc.roster.find? f) (funext fun x => ?_)
  simp only [Function.comp]
  split
  · next h => rw [h]
  · rfl

theorem peer?_setPeer_self {t : State} {new : Peer} (hpeer : s.peer? n = some e) (hnew : new.station = e.station)
    (hroster : t.prc.roster = s.prc.roster.map (fun x => if x.station = new.station then new else x)) :
    t.peer? n = some new := by
  rw [peer?_setPeer hroster, hpeer, Option.map_some, if_pos hnew.symm]

theorem peer?_setPeer_ne {t : State} {new : Peer} {p : Nat} (hp : p ≠ new.station)
    (hroster : t.prc.roster = s.prc.roster.map (fun x => if x.station = new.station then new else x)) :
    t.peer? p = s.peer? p := by
  rw [peer?_setPeer hroster]
  cases hfound : s.peer? p with
  | none => rfl
  | some x => rw [Option.map_some, if_neg (by rw [peer?_station hfound]; exact hp)]

/-- Nothing but the entry changes where neither its state nor what it shows does, and no decision is due. -/
theorem changePeer_of_same {old new : Peer} (hstate : new.state = old.state) (hlost : new.state ≠ .lost)
    (hshown : new.shown = old.shown) (b : Bool) : changePeer old new false b s = setPeer new s := by
  unfold changePeer
  dsimp only
  rw [if_neg hlost, hstate, hshown, if_neg (by simp), if_neg (by simp)]

/-- A change of state that does not lose the station: shore link control first, then the cover decision. -/
theorem changePeer_of_state {old new : Peer} (hstate : old.state ≠ new.state) (hlost : new.state ≠ .lost) (v b : Bool) :
    changePeer old new v b s = coverDecision new b (evaluateStandby (setPeer new s)) := by
  unfold changePeer
  dsimp only
  rw [if_neg hlost, if_pos (by simp [hstate]), if_pos (by simp [hstate])]

end

/-- The cover decision reads the cover set and the serving state. -/
theorem coverDecision_of_covered {s : State} {e : Peer} (b : Bool) (hneighbour : e.neighbour = true)
    (hcovered : s.covers e.station = true) :
    coverDecision e b s =
      if e.failed then setReturnHold e.station none s
      else if s.holdRuns e.station then s
      else if b then setReturnHold e.station (some (s.timebase + 5000)) s
      else removeCover e.station s := by
  rw [coverDecision, if_neg (by simp [hneighbour]), if_pos hcovered]
  rfl

theorem holdRuns_eq_false {s : State} {p : Nat} (h : ∀ x ∈ s.prc.cover, x.station = p → x.holdUntil = none) :
    s.holdRuns p = false := by
  rw [State.holdRuns, List.any_eq_false]
  intro x hx
  by_cases hp : x.station = p
  · simp [h x hx hp]
  · simp [hp]

/-- The hold of a member that runs none is cleared to no effect. -/
theorem setReturnHold_none_of_none {s : State} {p : Nat} (h : ∀ x ∈ s.prc.cover, x.station = p → x.holdUntil = none) :
    (setReturnHold p none s).prc.cover = s.prc.cover := by
  refine (List.map_congr_left fun x hx => ?_).trans (List.map_id _)
  split
  · next hp =>
    have hnone := h x hx hp
    cases x
    simp_all
  · rfl

/-- A frame of the part itself is heard by no entry. -/
theorem hear_of_own {n : Nat} {s : State} (h : n = s.own) :
    hear n s = { s with tbl := { s.tbl with window := s.tbl.window.filter (fun w => w.sender != n) } } := by
  subst h
  rw [hear_own, endWindow_eq]

/-- Settles O10: the three kinds are `hear`, which changes the sender's entry (`changePeer_prc`) and ends its window. -/
theorem heardFrameMarksItsSenderPresent : Obligations.HeardFrameMarksItsSenderPresent := by
  intro n s closed
  refine ⟨fun hown => ?own, fun e hown hpeer => ⟨hear n s, rfl, rfl, rfl, ?_⟩⟩
  case own =>
    have h := congrArg (Host.Outcome.next (φ := Fault) (ρ := Refusal)) (hear_of_own hown)
    exact ⟨h, h, h⟩
  have hstation : e.station = n := peer?_station hpeer
  have hheard := heardFrom_of_peer hown hpeer
  have hprc := changePeer_prc s e (e.presentAt s.timebase) false false
  have hhear : (hear n s).prc = (heardFrom n none s).prc := endWindow_touches n _ .prc (by decide)
  rw [← hheard, ← hhear] at hprc
  have hroster : (hear n s).prc.roster = s.prc.roster.map (fun x =>
      if x.station = (e.presentAt s.timebase).station then e.presentAt s.timebase else x) := by rw [hprc]
  have htouches := heardFrom_touches n none s
  refine ⟨peer?_setPeer_self hpeer rfl hroster, fun p hp => peer?_setPeer_ne (by simpa [hstation] using hp) hroster, ?table,
    htouches.comp (endWindow_touches n _), fun hstate => ?present, fun hstate hneighbour hcovered hholds => ?lost⟩
  case table =>
    have htbl : (heardFrom n none s).tbl = s.tbl := htouches .tbl (by decide)
    rw [hear, endWindow_eq, htbl]
  case present =>
    have hset : heardFrom n none s = setPeer (e.presentAt s.timebase) s :=
      hheard.trans (changePeer_of_same (by simp [hstate]) (by simp) (by rfl) false)
    refine ⟨?_, ?_⟩
    · rw [hhear, hset]; rfl
    · rw [hear, hset]
      exact (Touches.prc s _).comp (endWindow_touches n _)
  case lost =>
    have hcov : (evaluateStandby (setPeer (e.presentAt s.timebase) s)).prc =
        (setPeer (e.presentAt s.timebase) s).prc :=
      evaluateStandby_touches _ .prc (by decide)
    have hrch : (evaluateStandby (setPeer (e.presentAt s.timebase) s)).rch = s.rch :=
      (evaluateStandby_touches _ .rch (by decide)).1
    have hnone : ∀ x ∈ (evaluateStandby
        (setPeer (e.presentAt s.timebase) s)).prc.cover,
        x.station = e.station → x.holdUntil = none := by
      rw [hcov, hstation]
      exact hholds
    have hdecide : heardFrom n none s =
        if (e.presentAt s.timebase).failed then
          setReturnHold e.station none
            (evaluateStandby (setPeer (e.presentAt s.timebase) s))
        else removeCover e.station
          (evaluateStandby (setPeer (e.presentAt s.timebase) s)) := by
      rw [hheard, changePeer_of_state (by simp [hstate]) (by simp), coverDecision_of_covered (e := e.presentAt s.timebase) false
        hneighbour (by rw [State.covers, hcov, Peer.presentAt_station, hstation]; exact hcovered), Peer.presentAt_station,
        holdRuns_eq_false hnone]
      rfl
    have hwindow : (hear n s).rch = (heardFrom n none s).rch := (endWindow_touches n _ .rch (by decide)).1
    refine ⟨fun hlight => ?_, fun b hb hdark => ?_⟩
    · have hok : (e.presentAt s.timebase).failed = false := by
        cases hb : e.beacon with
        | none => simp [Peer.failed, hb]
        | some b => simpa [Peer.failed, hb] using hlight b hb
      rw [hhear, hwindow, hdecide, hok]
      refine ⟨by rw [if_neg nofun, removeCover_prc, hcov, hstation]; rfl, fun hroom => ?_⟩
      rw [if_neg nofun, removeCover_rch, hrch, hstation, Chan.enqueue, if_neg (by rw [Config.radioPlaces]; omega)]
    · have hfail : (e.presentAt s.timebase).failed = true := by
        simp [Peer.failed, hb, hdark]
      rw [hhear, hwindow, hdecide, hfail]
      refine ⟨?_, by rw [if_pos rfl]; exact hrch⟩
      rw [if_pos rfl, setReturnHold_none_of_none hnone, hcov]
      rfl

end Sys2Proof.Machine
end

section
/-! Rating (R24 to R41), the end of an interval (R65 to R72), and the handover frames (R49 to R55, R169). -/

-- One theorem after another: all at once take more threads than the check's memory holds.
set_option Elab.async false

namespace Sys2Proof.Machine

/-! ## The arithmetic of one meter (R34 to R37) -/

section
variable {inc price f half meter residue : Nat}

/-- What the charge of a rating that is not final leaves out is the residue it holds (R35). -/
theorem rateMeter_exact (hhalf : 0 < half) (hresidue : residue < 2 * half) :
    (rateMeter false inc price f (2 * half) meter residue).residue < 2 * half ∧
      (rateMeter false inc price f (2 * half) meter residue).charge * (2 * half) +
          (rateMeter false inc price f (2 * half) meter residue).residue =
        residue + meter / inc * inc * price * f := by
  simp only [rateMeter, unitsSold, Bool.false_and, Bool.false_eq_true, if_false]
  generalize meter / inc * inc * price * f = n
  have hdiv := Nat.div_add_mod n (2 * half)
  have hmod := Nat.mod_lt n (show 0 < 2 * half by omega)
  rw [Nat.mul_comm] at hdiv
  split
  · refine ⟨by omega, ?_⟩
    rw [Nat.add_mul, Nat.one_mul]
    omega
  · refine ⟨by omega, ?_⟩
    rw [Nat.add_zero]
    omega

/-- A final rating sells the remainder as one increment more (R36). -/
theorem unitsSold_final (hinc : 0 < inc) :
    meter ≤ unitsSold true inc meter * inc ∧ unitsSold true inc meter * inc < meter + inc := by
  have hdiv := Nat.div_add_mod meter inc
  have hmod := Nat.mod_lt meter hinc
  rw [Nat.mul_comm] at hdiv
  simp only [unitsSold, Bool.true_and, bne_iff_ne]
  split
  · rw [Nat.add_mul, Nat.one_mul]; omega
  · omega

/-- A final rating rounds the charge and the residue half up (R37). -/
theorem rateMeter_final_charge (hhalf : 0 < half) (hresidue : residue < 2 * half) :
    (rateMeter true inc price f (2 * half) meter residue).charge =
      (residue + unitsSold true inc meter * inc * price * f + half) / (2 * half) := by
  simp only [rateMeter, if_true]
  generalize unitsSold true inc meter * inc * price * f = n
  have hdiv := Nat.div_add_mod n (2 * half)
  have hmod := Nat.mod_lt n (show 0 < 2 * half by omega)
  have hround : ∀ q r, r < 2 * half → residue + n = 2 * half * q + r →
      (residue + n + half) / (2 * half) = q + (if half ≤ r then 1 else 0) := fun q r hr hsum => by
    rw [hsum, Nat.add_assoc, Nat.mul_add_div (by omega)]
    congr 1
    split
    · exact Nat.div_eq_of_lt_le (by omega) (by omega)
    · exact Nat.div_eq_of_lt (by omega)
  have hhalves : 2 * half / 2 = half := by omega
  rw [hhalves]
  split
  · refine (hround (n / (2 * half) + 1) _ (by omega) ?_).symm
    rw [Nat.mul_add, Nat.mul_one]
    omega
  · exact (hround (n / (2 * half) + 0) _ (by omega) (by rw [Nat.add_zero]; omega)).symm

end

theorem orOne_eq (n : Nat) : orOne n = max 1 n := by
  unfold orOne; split <;> omega

/-- Settles O22: the prices read the rows; the meter's arithmetic is `rateMeter_exact`, `unitsSold_final` and
`rateMeter_final_charge`; the rating of an entry is `Entry.rate` with its divisors written out. -/
theorem meterRatingIsExact : Obligations.MeterRatingIsExact := by
  refine ⟨fun zone link partner s => ⟨rfl, orOne_eq _, rfl, orOne_eq _, fun h => if_pos h, fun h => if_neg (by omega)⟩,
    fun inc price f half meter residue hinc hhalf hresidue => ?_, fun final p e => rfl⟩
  obtain ⟨hbound, hsum⟩ := rateMeter_exact (inc := inc) (price := price) (f := f) (meter := meter) hhalf hresidue
  obtain ⟨hlow, hhigh⟩ := unitsSold_final (meter := meter) hinc
  exact ⟨⟨rfl, rfl, hbound, hsum⟩, rfl, rfl, hlow, hhigh, Nat.mul_mod_left _ _, rateMeter_final_charge hhalf hresidue⟩

/-- Settles O23: what is added is the smaller of the charge and the room below the ceiling. -/
theorem chargeIsHeldToTheCap : Obligations.ChargeIsHeldToTheCap := by
  intro c e hlaw ceiling e'
  obtain ⟨hk, hbarred⟩ := hlaw
  have hceiling : ceilingOf e.cap = ceiling := rfl
  have hadded : min c (ceilingOf e.cap - e.k) = min (e.k + c) ceiling - e.k := by rw [hceiling] at *; omega
  have hk' : e'.k = min (e.k + c) ceiling := by
    change e.k + min c (ceilingOf e.cap - e.k) = _
    rw [hadded]; rw [hceiling] at hk; omega
  refine ⟨hk', applyCharge_capLaw c ⟨hk, hbarred⟩, fun hcharge hforgiven => ?room, fun hstate => ?barred, fun hactive hbars => ?bars⟩
  case room =>
    have hadd : min c (ceilingOf e.cap - e.k) = e'.k - e.k := by rw [hk', hadded]
    have hle : e'.k - e.k ≤ c := by omega
    refine ⟨?_, ?_, ?_⟩
    · change min (e.charge + min c (ceilingOf e.cap - e.k)) 16777215 = _
      rw [hadd]; omega
    · change min (e.forgiven + (c - min c (ceilingOf e.cap - e.k))) 16777215 = _
      rw [hadd, hk']
      rw [hceiling] at hk
      omega
    · change (e.saturated || decide (16777215 < e.forgiven + (c - min c (ceilingOf e.cap - e.k)))) = _
      rw [decide_eq_false (by omega), Bool.or_false]
  case barred =>
    obtain ⟨hcap, hfull⟩ := hbarred.1 hstate
    have hnot : (e.state == EntryState.active) = false := by rw [hstate]; rfl
    have hceil : ceiling = e.cap := if_neg hcap
    refine ⟨by rw [hk', hceil]; omega, ?_, ?_⟩
    · change (if (e.state == .active && _) then _ else e.state) = _
      rw [hnot, hstate]; rfl
    · change (e.barredIn || (e.state == .active && _)) = _
      rw [hnot]; simp
  case bars =>
    change (e.barredIn || _) = true
    change (if _ then EntryState.barred else e.state) = .barred at hbars
    split at hbars
    · next h => rw [Bool.or_eq_true]; exact .inr h
    · exact nomatch hactive.symm.trans hbars

/-! ## The end of an interval (R65 to R72) -/

theorem Entry.hasContent_iff (e : Entry) : e.hasContent = true ↔
    e.data ≠ 0 ∨ e.voice ≠ 0 ∨ e.charge ≠ 0 ∨ e.forgiven ≠ 0 ∨ e.overrunData ≠ 0 ∨ e.overrunVoice ≠ 0 := by
  simp only [Entry.hasContent, Bool.or_eq_true, bne_iff_ne, or_assoc]

theorem offerInterval_of_mixed {s : State} {i : Nat} {e : Entry} {cause : Cause} (hp : cause.changesPair = true)
    (h : s.slot i = .opened e) (hc : e.hasContent = true) (ht : s.takesInterval = false) :
    offerInterval cause i s = s.setSlot i (.opened { e with mixed := true }) := by
  simp [offerInterval, h, hc, ht, hp]

/-- Settles O27: an interval's end by its content, the store's room and its cause. -/
theorem intervalRecordIsTakenOrDeferred : Obligations.IntervalRecordIsTakenOrDeferred := by
  intro cause i e s hopen _ content room fresh
  have hfresh : s.openInterval e = fresh := by
    simp only [State.openInterval, fresh, Bool.beq_eq_decide_eq]
  have hnotTaken : ¬room → s.takesInterval = false := fun h => Bool.eq_false_iff.2 fun ht => h (s.takesInterval_iff.1 ht)
  refine ⟨hfresh, rfl, fun hnone => ?_, fun hc hroom => ?_, fun hc hroom hcause => ?_, fun hc hroom hcause => ?_⟩
  · rw [offerInterval_of_no_content cause hopen (Bool.eq_false_iff.2 fun h => hnone (e.hasContent_iff.1 h)), hfresh]
  · rw [offerInterval_of_taken cause hopen (e.hasContent_iff.2 hc) (s.takesInterval_iff.2 hroom), hfresh]
    rfl
  · exact offerInterval_of_deferred (by rcases hcause with rfl | rfl <;> rfl) hopen (e.hasContent_iff.2 hc) (hnotTaken hroom)
  · exact offerInterval_of_mixed (by rcases hcause with rfl | rfl <;> rfl) hopen (e.hasContent_iff.2 hc) (hnotTaken hroom)

/-! ## RELEASE heard (R54, R55) -/

/-- A merge that bars an ACTIVE entry. -/
theorem Entry.merge_of_bars {e : Entry} {charge k : Nat} {reached : Bool}
    (hk : k = if reached = true ∧ e.cap ≠ 0 then e.cap else min (e.k + charge) (ceilingOf e.cap))
    (hactive : e.state = .active) (hcap : e.cap ≠ 0) (hfull : k = e.cap) :
    e.merge charge reached = { e with k := k, state := .barred, barredIn := true } := by
  have hreached : Machine.capReached e.cap k = true := capReached_iff.2 ⟨hcap, hfull⟩
  have hk' : (if (reached && e.cap != 0) = true then e.cap else min (e.k + charge) (ceilingOf e.cap)) = k := by
    rw [hk]; exact if_congr (by simp) rfl rfl
  simp only [Entry.merge, hk', hactive, hreached]
  simp

theorem Entry.merge_of_not_bars {e : Entry} {charge k : Nat} {reached : Bool}
    (hk : k = if reached = true ∧ e.cap ≠ 0 then e.cap else min (e.k + charge) (ceilingOf e.cap))
    (hnot : ¬(e.state = .active ∧ e.cap ≠ 0 ∧ k = e.cap)) : e.merge charge reached = { e with k := k } := by
  have hk' : (if (reached && e.cap != 0) = true then e.cap else min (e.k + charge) (ceilingOf e.cap)) = k := by
    rw [hk]; exact if_congr (by simp) rfl rfl
  have hbars : (e.state == .active && Machine.capReached e.cap k) = false := by
    rw [Bool.eq_false_iff, ne_eq, Bool.and_eq_true, beq_iff_eq, capReached_iff]
    exact hnot
  simp only [Entry.merge, hk', hbars]
  simp

theorem mergeInto_of_opened {s : State} {i : Nat} {e : Entry} (m : ReleaseMsg) (h : s.slot i = .opened e) :
    mergeInto i m s =
      if becameBarred e (e.merge m.charge m.capReached) then
        queueRadio (.bar e.key) (s.setSlot i (.opened (e.merge m.charge m.capReached)))
      else s.setSlot i (.opened (e.merge m.charge m.capReached)) := by
  simp [mergeInto, h]

/-- Settles O25: `takeRelease` by whom the frame names, whether the key is open, and the voyage. -/
theorem releaseIsMergedOrStale : Obligations.ReleaseIsMergedOrStale := by
  intro n m s u stale
  refine ⟨fun helse => congrArg Host.Outcome.next (if_pos helse), fun hown hzero => ?_⟩
  have hhere : ¬ (m.claimant ≠ u.own ∨ m.claimant = 0) := by tauto
  have htake : takeRelease m u = (match u.findOpen m.key with
    | none => countStale u
    | some i => if m.voyage = u.rtk.voyage then mergeInto i m u else countStale u) := if_neg hhere
  refine ⟨fun hnone => congrArg Host.Outcome.next ?_, fun hvoyage => congrArg Host.Outcome.next ?_,
    fun i e hfound hopen hvoyage => ?_⟩
  · rw [htake, hnone]; rfl
  · rw [htake]
    split
    · rfl
    · exact if_neg hvoyage
  · intro k
    have hmerge : takeRelease m u = mergeInto i m u := by
      rw [htake, hfound]; exact if_pos hvoyage
    have hkey : e.key = m.key := State.key_of_findOpen hfound hopen
    refine ⟨fun ⟨hactive, hcap, hfull⟩ => congrArg Host.Outcome.next ?_, fun hnot => congrArg Host.Outcome.next ?_⟩
    · rw [hmerge, mergeInto_of_opened m hopen, Entry.merge_of_bars (k := k) rfl hactive hcap hfull, hkey]
      exact if_pos (becameBarred_iff.2 ⟨hactive, rfl⟩)
    · rw [hmerge, mergeInto_of_opened m hopen, Entry.merge_of_not_bars (k := k) rfl hnot]
      exact if_neg fun h => by
        obtain ⟨h1, h2⟩ := becameBarred_iff.1 h
        exact nomatch h1.symm.trans h2

/-! ## A full class-1 queue (R169, R49) -/

theorem splitClaim_of_first {before after : List (Waiting Class1)} {w : Waiting Class1} {key : Nat}
    (hw : w.frame = .claim key) (hbefore : ∀ x ∈ before, ∀ k, x.frame ≠ .claim k) :
    splitClaim (before ++ w :: after) = some (key, before ++ after) := by
  induction before with
  | nil => simp [splitClaim, hw]
  | cons x rest ih =>
    have hx : ∃ m, x.frame = .release m := by
      cases hframe : x.frame with
      | claim k => exact absurd hframe (hbefore x (List.mem_cons_self ..) k)
      | release m => exact ⟨m, rfl⟩
    obtain ⟨m, hm⟩ := hx
    rw [List.cons_append, splitClaim, hm]
    simp only [ih fun y hy => hbefore y (List.mem_cons_of_mem _ hy)]
    rfl

theorem splitClaim_of_no_claim {q : List (Waiting Class1)} (h : ∀ x ∈ q, ∀ k, x.frame ≠ .claim k) :
    splitClaim q = none := by
  induction q with
  | nil => rfl
  | cons x rest ih =>
    obtain ⟨m, hm⟩ : ∃ m, x.frame = .release m := by
      cases hframe : x.frame with
      | claim k => exact absurd hframe (h x (List.mem_cons_self ..) k)
      | release m => exact ⟨m, rfl⟩
    rw [splitClaim, hm]
    simp only [ih fun y hy => h y (List.mem_cons_of_mem _ hy)]
    rfl

/-- The frame held on the line, if any, is passed over. -/
theorem splitFreeClaim_of_held {online : Bool} {held rest : List (Waiting Class1)}
    (hheld : held.length = if online then 1 else 0) :
    splitFreeClaim online (held ++ rest) = (splitClaim rest).map (fun p => (p.1, held ++ p.2)) := by
  cases online with
  | false =>
    rw [List.eq_nil_of_length_eq_zero hheld]
    simp [splitFreeClaim]
  | true =>
    obtain ⟨h, rfl⟩ := List.length_eq_one_iff.1 hheld
    rfl

theorem forgetClaim_hov (key : Nat) (s : State) :
    (forgetClaim key s).hov = { s.hov with pendingClaims := s.hov.pendingClaims.erase key } := by
  unfold forgetClaim; dsimp only; split
  · rfl
  · rw [updateEntry_touches _ _ _ .hov (by decide)]

/-- Settles O26: the offers in a full queue, by the oldest CLAIM not on the line. -/
theorem fullClass1QueueDropsClaims : Obligations.FullClass1QueueDropsClaims := by
  intro s hown hfull dropped
  have hlisten : s.listenOnly = false := State.listenOnly_of_own hown
  have hnoRoom : ¬ s.dbi.class1.length < Config.class1Places := by rw [hfull]; decide
  have honline : ∀ {n : Nat}, n = (if s.dbi.onLine = some .class1 then 1 else 0) →
      n = if (s.dbi.onLine == some .class1) = true then 1 else 0 := fun h => by simpa using h
  refine ⟨fun m held before after w key hqueue hw hbefore hheld => ?claim, fun m held rest hqueue hrest hheld => ?none,
    fun key => ?offered⟩
  case claim =>
    have hsplit : splitFreeClaim (s.dbi.onLine == some .class1) s.dbi.class1 = some (key, held ++ (before ++ after)) := by
      rw [hqueue, List.append_assoc, splitFreeClaim_of_held (honline hheld), splitClaim_of_first hw hbefore]
      rfl
    have hoffer : offerRelease m s = forgetClaim key (countClass1Drop { s with dbi := { s.dbi with
        class1 := held ++ (before ++ after) ++ [s.enter (.release m)] } }) := by
      rw [offerRelease, if_neg (by simp [hlisten]), if_neg hnoRoom, hsplit]
    rw [hoffer]
    have htouches := forgetClaim_touches key (countClass1Drop { s with dbi := { s.dbi with
      class1 := held ++ (before ++ after) ++ [s.enter (.release m)] } })
    refine ⟨?_, forgetClaim_hov _ _, ?_⟩
    · rw [htouches .dbi (by decide), ← List.append_assoc]
      rfl
    · exact (Touches.dbi s _).comp htouches
  case none =>
    rw [offerRelease, if_neg (by simp [hlisten]), if_neg hnoRoom, hqueue, splitFreeClaim_of_held (honline hheld),
      splitClaim_of_no_claim hrest]
    rfl
  case offered =>
    rw [offerClaim, if_neg (by simp [hlisten]), if_neg hnoRoom]
    exact ⟨forgetClaim_touches key (countClass1Drop s) .dbi (by decide), forgetClaim_hov key (countClass1Drop s)⟩

/-! ## CLAIM heard (R50 to R53) -/

/-- A block that has not changed leaves the frame. -/
theorem Touches.without {bs cs : List Block} {s t : State} (h : Touches bs s t) (b : Block) (hb : b.same s t)
    (hcs : ∀ x ∈ bs, x = b ∨ x ∈ cs := by decide) : Touches cs s t := fun x hx => by
  by_cases hxb : x = b
  · exact hxb ▸ hb
  · exact h x fun hmem => (hcs x hmem).elim hxb hx

theorem offerRelease_of_room {s : State} (m : ReleaseMsg) (hown : s.own ≠ 0) (hroom : s.dbi.class1.length < 16) :
    offerRelease m s = { s with dbi := { s.dbi with class1 := s.dbi.class1 ++ [⟨.release m, 0, s.timebase⟩] } } := by
  rw [offerRelease, if_neg (by simp [State.listenOnly_of_own hown]),
    if_pos (show s.dbi.class1.length < Config.class1Places from hroom)]
  rfl

/-- The open entry of a slot is released to a claimant: one whole close HANDOVER, then the RELEASE. -/
theorem releaseEntry_of_opened {s : State} {i : Nat} {old : Entry} (claimant : Nat) (h : s.slot i = .opened old) :
    releaseEntry claimant i s =
      let e := old.rate true (s.prices s.rtk.zone s.slc.ratingLink old.partner)
      offerRelease ⟨e.key, claimant, e.k, e.capReached, s.rtk.voyage⟩ (closeSlot .handover false i s) := by
  have hrated := (rateSlot_slot true false s.rtk.zone s.slc.ratingLink h).1
  have hrtk : (rateSlot true false s.rtk.zone s.slc.ratingLink i s).rtk = s.rtk :=
    rateSlot_touches _ _ _ _ _ s .rtk (by decide)
  simp only [releaseEntry, hrated, hrtk]
  rfl

/-- A close that releases the subscriber sends the BAR of its final rating and then RELEASE-SUB. -/
theorem closeSlot_queue_of_release {s : State} {i : Nat} {old : Entry} {cause : Cause}
    (hcause : cause.releasesSub = true) (h : s.slot i = .opened old) (hroom : s.rch.queue.length ≤ 14) :
    (closeSlot cause false i s).rch.queue = s.rch.queue ++
      (if becameBarred old (old.rate true (s.prices s.rtk.zone s.slc.ratingLink old.partner)) then [.bar old.key] else []) ++
        [.releaseSub old.key] := by
  have hr := (rateSlot_slot true false s.rtk.zone s.slc.ratingLink h).1
  have hqueue := rateSlot_queue true false s.rtk.zone s.slc.ratingLink h (by omega)
  simp only [Bool.not_false, Bool.and_true] at hqueue
  have hlen : (rateSlot true false s.rtk.zone s.slc.ratingLink i s).rch.queue.length < 16 := by
    rw [hqueue, List.length_append]
    split <;> simp <;> omega
  rw [closeSlot, (finishClose_departure_directive hr).2, hcause, ← hqueue]
  exact (queueRadio_room _ hlen).1

theorem takeClaim_of_open {s : State} {n key i : Nat} {e : Entry} (hown : n ≠ s.own) (hfound : s.findOpen key = some i)
    (hopen : s.slot i = .opened e) : takeClaim n key s = if e.claimPending then s else releaseEntry n i s := by
  have hentry : s.entry? i = some e := by rw [State.entry?, hopen]
  rw [takeClaim, if_neg hown, hfound]
  simp only [hentry]

/-- Settles O24: a CLAIM by whose it is and where its key is found. -/
theorem claimsAreAnswered : Obligations.ClaimsAreAnswered := by
  refine ⟨fun n key s => ?heard, fun n key i old s => ?released⟩
  case heard =>
    intro u
    refine ⟨fun hown => congrArg Host.Outcome.next (if_pos hown : takeClaim n key u = u),
      fun hown => ⟨fun i e hfound hopen hclaim => ?_, fun hfound hlist => ?_, fun d hfound hlist hbus hroom => ?_⟩⟩
    · exact congrArg Host.Outcome.next ((takeClaim_of_open hown hfound hopen).trans (if_pos hclaim))
    · refine congrArg Host.Outcome.next ?_
      rw [takeClaim, if_neg hown, show (hear n s).findOpen key = none from hfound]
      simp only [State.departed?, show (hear n s).hov.departures.find? (fun d => d.key == key) = none from hlist]
      rfl
    · refine congrArg Host.Outcome.next ?_
      have hkey : d.key = key := by simpa using List.find?_some hlist
      rw [takeClaim, if_neg hown, show (hear n s).findOpen key = none from hfound]
      simp only [State.departed?, show (hear n s).hov.departures.find? (fun d => d.key == key) = some d from hlist]
      rw [releaseFromList, offerRelease_of_room _ hbus hroom, hkey]
      rfl
  case released =>
    intro u hown hbus hfound hopen hclaim hroom hradio e
    have hkey : old.key = key := State.key_of_findOpen hfound hopen
    have hclose := closeSlot_touches .handover false i u
    have hnot : ¬ old.claimPending = true := by simp [hclaim]
    have htake : takeClaim n key u = offerRelease ⟨key, n, e.k, e.capReached, u.rtk.voyage⟩
        (closeSlot .handover false i u) := by
      rw [takeClaim_of_open hown hfound hopen, if_neg hnot, releaseEntry_of_opened n hopen, ← hkey]
      rfl
    have hdbi : (closeSlot .handover false i u).dbi = u.dbi := hclose .dbi (by decide)
    rw [offerRelease_of_room _ (by rw [State.own, hclose .cfg (by decide)]; exact hbus) (by rw [hdbi]; exact hroom)] at htake
    obtain ⟨hshut, hothers, hattach, -⟩ := closeSlot_orders .handover false hopen
    have hsame : (closeSlot .handover false i u).hov = u.hov :=
      (closeSlot_hov (cause := .handover) (quiet := false) hopen).trans (if_neg nofun)
    refine ⟨_, congrArg Host.Outcome.next htake, hshut, hothers, hattach, hsame, ?_, ?_,
      fun hc hstore hnone => ?_, (hclose.without .hov hsame (cs := [.sub, .bsd, .rch])).comp (Touches.dbi _ _)⟩
    · dsimp only
      rw [hdbi, hclose .timebase (by decide)]
      rfl
    · dsimp only
      rw [closeSlot_queue_of_release rfl hopen hradio, hkey]
      congr 2
      exact if_congr becameBarred_iff rfl rfl
    · exact congrArg Bsd.store (closeSlot_of_taken (cause := .handover) (quiet := false) hopen hc
        (u.takesFinal_iff.2 ⟨hstore, hnone⟩)).2.1

end Sys2Proof.Machine
end

section
/-! ATTACH (R4 to R9, R47): the refusals in their order, the admission of a new entry, and an eviction. -/

-- One theorem after another: all at once take more threads than the check's memory holds.
set_option Elab.async false

namespace Sys2Proof.Machine

/-! ## The checks in order (Table 1.4) -/

section
variable {key home r : Nat} {req : Services} {s : State}

theorem attach_of_not_serving (h : s.prc.serving ≠ .serving ∨ s.own = 0) :
    attach key home req s = refuse key .notServing s := if_pos (by simpa [State.listenOnly] using h)

/-- A station that serves passes the first check. -/
theorem attach_serves (hserving : s.prc.serving = .serving) (hown : s.own ≠ 0) :
    ¬ (s.prc.serving != .serving || s.listenOnly) = true := by
  simp [hserving, State.listenOnly_of_own hown]

theorem attach_of_zero (hserving : s.prc.serving = .serving) (hown : s.own ≠ 0) (hkey : key = 0) :
    attach key home req s = refuse 0 .malformed s := by
  rw [attach, if_neg (attach_serves hserving hown), if_pos hkey]

theorem attach_of_new (hserving : s.prc.serving = .serving) (hown : s.own ≠ 0) (hkey : key ≠ 0)
    (hclosed : s.findOpen key = none) : attach key home req s = admitChecked key home req s := by
  rw [attach, if_neg (attach_serves hserving hown), if_neg hkey, hclosed]

/-- A refresh (R6): the open entry is answered. -/
theorem attach_of_open {i : Nat} {e : Entry} (hserving : s.prc.serving = .serving) (hown : s.own ≠ 0) (hkey : key ≠ 0)
    (hfound : s.findOpen key = some i) (hopen : s.slot i = .opened e) :
    attach key home req s = queueRadio (s.answer e) s := by
  have hentry : s.entry? i = some e := by rw [State.entry?, hopen]
  rw [attach, if_neg (attach_serves hserving hown), if_neg hkey, hfound]
  simp only [hentry]

theorem answer_eq (e : Entry) : s.answer e =
    if e.state = .active then .admitSub e.key ⟨e.grant.data && s.slc.gateOpen, e.grant.voice⟩ else .bar e.key := by
  unfold State.answer
  cases e.state <;> rfl

theorem findPartner_eq_none (h : home = 0 ∨ ∀ r ∈ s.tbl.partners, r.home ≠ home) : s.findPartner home = none := by
  rw [State.findPartner, List.findIdx?_eq_none_iff]
  intro row hrow
  rw [Bool.and_eq_false_iff, bne_eq_false_iff_eq, beq_eq_false_iff_ne]
  obtain rfl | h := h
  · tauto
  · exact .inr (h row hrow)

/-- The partner row's own checks, in their order (R7). -/
theorem admitChecked_of_row (hrow : s.findPartner home = some r) :
    admitChecked key home req s =
      if (s.partnerRow r).suspended then refuse key .suspended s
      else if !(s.partnerRow r).permits s.rtk.zone then refuse key .zoneNotPermitted s
      else if noServices (commonServices req (s.partnerRow r).services) then refuse key .noService s
      else admitNew key r (commonServices req (s.partnerRow r).services) s := by
  rw [admitChecked, hrow]

theorem admitChecked_of_passed (hrow : s.findPartner home = some r) (hsuspended : (s.partnerRow r).suspended = false)
    (hzone : (s.partnerRow r).zones.getLsbD s.rtk.zone = true)
    (hservice : (req.data && (s.partnerRow r).services.data) = true ∨ (req.voice && (s.partnerRow r).services.voice) = true) :
    admitChecked key home req s = admitNew key r (commonServices req (s.partnerRow r).services) s := by
  have hservices : noServices (commonServices req (s.partnerRow r).services) = false := by
    simp only [noServices, commonServices, Bool.and_eq_false_iff, Bool.not_eq_false']
    exact hservice
  rw [admitChecked_of_row hrow, hsuspended, hservices, PartnerRow.permits, hzone]
  rfl

end

/-- Settles O17: each row of Table 1.4 is the next branch of `attach`. -/
theorem attachIsRefusedInOrder : Obligations.AttachIsRefusedInOrder := by
  intro key home req s answer row
  refine ⟨fun h => congrArg Host.Outcome.next (attach_of_not_serving (s := radioGood s) h), fun hserving hown =>
    ⟨fun hkey => congrArg Host.Outcome.next (attach_of_zero (s := radioGood s) hserving hown hkey),
    fun hkey i e hfound hopen => congrArg Host.Outcome.next ?_, fun hkey hclosed => ?_⟩⟩
  · rw [attach_of_open (s := radioGood s) hserving hown hkey hfound hopen, answer_eq, State.key_of_findOpen hfound hopen]
    rfl
  · have hnew : attach key home req (radioGood s) = admitChecked key home req (radioGood s) :=
      attach_of_new hserving hown hkey hclosed
    refine ⟨fun hnone => congrArg Host.Outcome.next ?_, fun r hrow => ?_⟩
    · rw [hnew, admitChecked, show (radioGood s).findPartner home = none from findPartner_eq_none hnone]
      rfl
    · have hchecked := hnew.trans (admitChecked_of_row (key := key) (req := req) (s := radioGood s) hrow)
      refine ⟨fun hsuspended => congrArg Host.Outcome.next (hchecked.trans (if_pos hsuspended)), fun hsuspended => ?_⟩
      have hactive : ¬ ((radioGood s).partnerRow r).suspended = true := by
        rw [show ((radioGood s).partnerRow r).suspended = false from hsuspended]; nofun
      refine ⟨fun hzone => congrArg Host.Outcome.next ((hchecked.trans (if_neg hactive)).trans (if_pos ?_)),
        fun hzone hdata hvoice => congrArg Host.Outcome.next
          (((hchecked.trans (if_neg hactive)).trans (if_neg ?_)).trans (if_pos ?_))⟩
      · rw [show ((radioGood s).partnerRow r).permits (radioGood s).rtk.zone = false from hzone]; rfl
      · rw [show ((radioGood s).partnerRow r).permits (radioGood s).rtk.zone = true from hzone]; nofun
      · simp only [noServices, commonServices, Bool.and_eq_true, Bool.not_eq_true']
        exact ⟨hdata, hvoice⟩

/-! ## Admission (R4, R9, R47) -/

section
variable {i key partner : Nat} {grant : Services} {s : State}

/-- A new entry's CLAIM is queued where there is room and its key is not pending yet (R47). -/
theorem queueClaim_of_room (hown : s.own ≠ 0) (hpending : s.hov.pendingClaims.contains key = false)
    (hroom : s.dbi.class1.length < 16) :
    queueClaim key s = { s with
      hov := { s.hov with pendingClaims := s.hov.pendingClaims ++ [key] }
      dbi := { s.dbi with class1 := s.dbi.class1 ++ [⟨.claim key, 0, s.timebase⟩] } } := by
  rw [queueClaim, if_neg (by rw [hpending]; nofun), offerClaim]
  have hlisten : ¬ State.listenOnly { s with hov := { s.hov with pendingClaims := s.hov.pendingClaims ++ [key] } } = true := by
    have h : State.listenOnly { s with hov := { s.hov with pendingClaims := s.hov.pendingClaims ++ [key] } } = false :=
      State.listenOnly_of_own hown
    rw [h]; nofun
  rw [if_neg hlisten]
  exact if_pos hroom

/-- Of the blocks an admission leaves alone, those that the entry and the answer read. -/
theorem placeEntry_answer (e : Entry) : (placeEntry i key partner grant s).answer e = s.answer e := by
  rw [answer_eq, answer_eq, placeEntry_touches i key partner grant s .slc (by decide)]

/-- An admission with room for its CLAIM and its answer. -/
theorem admitInto_of_room (hown : s.own ≠ 0) (hpending : s.hov.pendingClaims.contains key = false)
    (hclass1 : s.dbi.class1.length < 16) :
    admitInto i key partner grant s =
      let u := queueRadio (s.answer (s.newEntry key partner grant)) (placeEntry i key partner grant s)
      { u with
        hov := { u.hov with pendingClaims := s.hov.pendingClaims ++ [key] }
        dbi := { s.dbi with class1 := s.dbi.class1 ++ [⟨.claim key, 0, s.timebase⟩] } } := by
  rw [admitInto_eq, placeEntry_answer]
  exact queueClaim_of_room (s := queueRadio _ (placeEntry i key partner grant s)) hown hpending hclass1

theorem restoredK_eq (cap : Nat) (d : Option Departure) :
    restoredK cap d = match d with
      | none => 0
      | some d => if d.capReached = true ∧ cap ≠ 0 then cap else min d.charge (ceilingOf cap) := by
  unfold restoredK
  split
  · rfl
  · exact if_congr (by simp) rfl rfl

end

/-- A new entry is marked barred exactly where it opens BARRED. -/
theorem newEntry_barredIn (s : State) (key partner : Nat) (grant : Services) :
    (s.newEntry key partner grant).barredIn =
      decide ((s.partnerRow partner).cap ≠ 0 ∧ (s.newEntry key partner grant).k = (s.partnerRow partner).cap) := by
  have hstate : (s.newEntry key partner grant).barredIn = ((s.newEntry key partner grant).state == .barred) := rfl
  have hreached : (s.newEntry key partner grant).state =
      if Machine.capReached (s.partnerRow partner).cap (s.newEntry key partner grant).k then .barred else .active := rfl
  rw [hstate, hreached, Bool.eq_iff_iff, decide_eq_true_eq, ← capReached_iff]
  cases Machine.capReached (s.partnerRow partner).cap (s.newEntry key partner grant).k <;> simp

/-- Settles O18: the checks pass, and the admission is `admitInto_of_room`. -/
theorem attachAdmitsANewEntry : Obligations.AttachAdmitsANewEntry := by
  intro key home r i req s hserving hown hkey hclosed hrow row grant ceiling k hsuspended hzone hservice hfree hpending
    hclass1 hradio
  have hchecked : attach key home req (radioGood s) = admitInto i key r grant (radioGood s) := by
    rw [attach_of_new (s := radioGood s) hserving hown hkey hclosed,
      admitChecked_of_passed (s := radioGood s) hrow hsuspended hzone hservice, admitNew,
      show (radioGood s).firstFree = some i from hfree]
    rfl
  have hadmit := hchecked.trans (admitInto_of_room (s := radioGood s) hown hpending hclass1)
  have hk : (s.newEntry key r grant).k = k := (restoredK_eq _ _)
  have hslot := fun j => placeEntry_slot i key r grant (s := radioGood s) hfree j
  refine ⟨_, (radioGood s).newEntry key r grant, congrArg Host.Outcome.next hadmit, (hslot i).trans (if_pos rfl), rfl, rfl, rfl,
    rfl, hk, ?state, ?barred, rfl, rfl, rfl, rfl, rfl, rfl, rfl, rfl, rfl, rfl, rfl, rfl, rfl, rfl, rfl, rfl,
    fun j hj => (hslot j).trans (if_neg hj.symm), (State.firstFree_some hfree).2.2, rfl, rfl, rfl, rfl, rfl, ?queue, ?touches⟩
  case state =>
    rw [← hk]
    exact if_congr capReached_iff rfl rfl
  case barred =>
    rw [← hk]
    exact newEntry_barredIn _ _ _ _
  case queue =>
    rw [answer_eq]
    exact (queueRadio_room (s := placeEntry i key r grant (radioGood s)) _ hradio).1
  case touches =>
    have hframe := (radioGood_touches s).comp (admitInto_touches i key r grant (radioGood s))
      (cs := [.sub, .hov, .dbi, .rch])
    rw [← hchecked, hadmit] at hframe
    exact hframe

/-! ## Eviction (R8) -/

section
variable {key partner b : Nat} {grant : Services} {s : State} {old : Entry}

theorem isBarred_iff {i : Nat} : s.isBarred i = true ↔ ∃ e, s.slot i = .opened e ∧ e.state = .barred := by
  unfold State.isBarred
  split
  · next e he => simp [he]
  · next h =>
    simp only [Bool.false_eq_true, false_iff, not_exists, not_and]
    exact fun e he => absurd he (h e)

theorem admitNew_of_full_table (hfree : s.firstFree = none)
    (h : (∀ i ∈ s.sub.attachOrder, s.isBarred i = false) ∨ 64 ≤ s.bsd.store.length) :
    admitNew key partner grant s = refuse key .tableFull s := by
  rw [admitNew, hfree]
  obtain hnone | hfull := h
  · have hold : s.oldestBarred = none := List.find?_eq_none.2 fun i hi => by simp [hnone i hi]
    simp only [hold]
  · have hno : ¬ s.bsd.store.length < Config.storePlaces := Nat.not_lt.2 hfull
    simp only [if_neg hno]
    split <;> rfl

theorem closeSlot_length (cause : Cause) (quiet : Bool) (h : s.slot b = .opened old) :
    (closeSlot cause quiet b s).sub.slots.length = s.sub.slots.length :=
  (finishClose_length cause quiet (rateSlot_slot true quiet s.rtk.zone s.slc.ratingLink h).1).trans
    (rateSlot_orders true quiet s.rtk.zone s.slc.ratingLink b s).2.2

/-- A close whose record, if there is one, is taken leaves its slot FREE. -/
theorem closeSlot_of_room {cause : Cause} {quiet : Bool} (h : s.slot b = .opened old) (ht : s.takesFinal = true) :
    (closeSlot cause quiet b s).slot b = .free ∧
      (closeSlot cause quiet b s).sub.closingOrder = s.sub.closingOrder := by
  cases hc : (old.rate true (s.prices s.rtk.zone s.slc.ratingLink old.partner)).hasContent with
  | false =>
    obtain ⟨h1, -, h2⟩ := closeSlot_of_no_content (cause := cause) (quiet := quiet) h hc
    exact ⟨h1, h2⟩
  | true =>
    obtain ⟨h1, -, h2⟩ := closeSlot_of_taken (cause := cause) (quiet := quiet) h hc ht
    exact ⟨h1, h2⟩

/-- A close makes its slot the lowest FREE one where no other is. -/
theorem firstFree_of_only (hfree : s.firstFree = none) {t : State} (hlen : t.sub.slots.length = s.sub.slots.length)
    (hb : t.slot b = .free) (hlt : b < s.sub.slots.length) (hothers : ∀ j, j ≠ b → t.slot j = s.slot j) :
    t.firstFree = some b := by
  rw [State.firstFree, List.findIdx?_eq_none_iff] at hfree
  have hltb : b < t.sub.slots.length := by rw [hlen]; exact hlt
  refine List.findIdx?_eq_some_iff_getElem.2 ⟨hltb, ?_, fun j hj => ?_⟩
  · rw [← t.slot_eq_getElem b hltb, hb]; rfl
  · have hjs : j < s.sub.slots.length := by omega
    rw [← t.slot_eq_getElem j (hj.trans hltb), hothers j (Nat.ne_of_lt hj), s.slot_eq_getElem j hjs,
      hfree _ (List.getElem_mem _)]
    nofun

/-- The final rating of a BARRED entry sends no BAR. -/
theorem becameBarred_of_barred {before after : Entry} (h : before.state = .barred) : becameBarred before after = false := by
  simp [becameBarred, h]

end

/-- An entry with its claim pending or not. -/
structure Entry.SameButClaim (e e' : Entry) : Prop where
  key     : e'.key = e.key
  partner : e'.partner = e.partner
  grant   : e'.grant = e.grant
  state   : e'.state = e.state

section
variable {key partner b : Nat} {grant : Services} {s : State}

/-- A key forgotten is forgotten in the one slot that holds it. -/
theorem forgetClaim_slots {e : Entry} (hb : s.slot b = .opened e)
    (honly : ∀ j e, s.slot j = .opened e → e.key = key → j = b) :
    (∃ e', (forgetClaim key s).slot b = .opened e' ∧ e.SameButClaim e') ∧
      ∀ j, j ≠ b → (forgetClaim key s).slot j = s.slot j := by
  cases hfound : s.findOpen key with
  | none =>
    rw [forgetClaim_of_none hfound]
    exact ⟨⟨e, hb, rfl, rfl, rfl, rfl⟩, fun _ _ => rfl⟩
  | some i =>
    obtain ⟨hlt, e', he', hkey⟩ := State.findOpen_some hfound
    obtain rfl := honly i e' he' hkey
    rw [forgetClaim_of_open hfound he']
    have hee : e = e' := by rw [hb] at he'; cases he'; rfl
    subst hee
    refine ⟨⟨{ e with claimPending := false }, ?_, rfl, rfl, rfl, rfl⟩, fun j hj => ?_⟩
    · exact State.slot_setSlot_self _ _ _ hlt
    · exact State.slot_setSlot_ne _ _ _ _ hj.symm

/-- The slots after an admission: the new entry, its claim pending or dropped, and the others as they were. -/
theorem admitInto_slot (hfree : s.firstFree = some b) (hclosed : s.findOpen key = none) :
    ∃ e, (admitInto b key partner grant s).slot b = .opened e ∧ (s.newEntry key partner grant).SameButClaim e ∧
      ∀ j, j ≠ b → (admitInto b key partner grant s).slot j = s.slot j := by
  rw [State.findOpen_eq_none_iff] at hclosed
  have hplaced := placeEntry_slot b key partner grant hfree
  have hb := (hplaced b).trans (if_pos rfl)
  have hothers : ∀ j, j ≠ b → (placeEntry b key partner grant s).slot j = s.slot j := fun j hj =>
    (hplaced j).trans (if_neg hj.symm)
  have hsame : ∃ e, (placeEntry b key partner grant s).slot b = .opened e ∧ (s.newEntry key partner grant).SameButClaim e ∧
      ∀ j, j ≠ b → (placeEntry b key partner grant s).slot j = s.slot j := ⟨_, hb, ⟨rfl, rfl, rfl, rfl⟩, hothers⟩
  rw [admitInto_eq]
  unfold queueClaim offerClaim
  split
  · exact hsame
  · split
    · exact hsame
    · split
      · exact hsame
      · obtain ⟨⟨e, he, hsame⟩, hrest⟩ := forgetClaim_slots (key := key) (s := countClass1Drop
          { queueRadio ((placeEntry b key partner grant s).answer (s.newEntry key partner grant))
              (placeEntry b key partner grant s) with
            hov := { (placeEntry b key partner grant s).hov with
              pendingClaims := (placeEntry b key partner grant s).hov.pendingClaims ++ [key] } }) hb fun j e he hkey => by
            by_contra hj
            exact hclosed j e ((hothers j hj).symm.trans he) hkey
        exact ⟨e, he, hsame, fun j hj => (hrest j hj).trans (hothers j hj)⟩

end

/-- Settles O19: with no FREE slot the oldest BARRED entry is closed EVICT, and the admission takes its slot. -/
theorem fullTableEvictsTheOldestBarred : Obligations.FullTableEvictsTheOldestBarred := by
  intro key home r req s hserving hown hkey hclosed hrow row hsuspended hzone hservice hfree
  have hnew : attach key home req (radioGood s) =
      admitNew key r (commonServices req ((radioGood s).partnerRow r).services) (radioGood s) := by
    rw [attach_of_new (s := radioGood s) hserving hown hkey hclosed,
      admitChecked_of_passed (s := radioGood s) hrow hsuspended hzone hservice]
  refine ⟨fun hfull => congrArg Host.Outcome.next (hnew.trans (admitNew_of_full_table (s := radioGood s) hfree hfull)),
    fun b old holdest hopen hstore hnone hradio => ?_⟩
  have hbarred : old.state = .barred := by
    obtain ⟨e, he, hstate⟩ := isBarred_iff.1 (List.find?_some holdest)
    rw [hopen] at he
    cases he
    exact hstate
  have hopen' : (radioGood s).slot b = .opened old := hopen
  obtain ⟨-, hothers, hattach, -⟩ := closeSlot_orders .evict false hopen'
  obtain ⟨hslot, hclosing⟩ := closeSlot_of_room (cause := .evict) (quiet := false) hopen'
    ((State.takesFinal_iff _).2 ⟨hstore, hnone⟩)
  have hqueue := closeSlot_queue_of_release (cause := .evict) rfl hopen' hradio
  rw [becameBarred_of_barred hbarred] at hqueue
  have hclose := closeSlot_touches .evict false b (radioGood s)
  have hfree1 : (closeSlot .evict false b (radioGood s)).firstFree = some b :=
    firstFree_of_only (s := radioGood s) hfree (closeSlot_length .evict false hopen') hslot
      (s.lt_of_slot b (by simp [hopen])) hothers
  have hadmit : admitNew key r (commonServices req ((radioGood s).partnerRow r).services) (radioGood s) =
      admitInto b key r (commonServices req row.services) (closeSlot .evict false b (radioGood s)) := by
    have hroom : (radioGood s).bsd.store.length < Config.storePlaces := hstore
    rw [admitNew, show (radioGood s).firstFree = none from hfree]
    simp only [show (radioGood s).oldestBarred = some b from holdest, if_pos hroom, hfree1]
    rfl
  have hclosed1 : (closeSlot .evict false b (radioGood s)).findOpen key = none :=
    closeSlot_findOpen_none .evict false b (s := radioGood s) hclosed
  obtain ⟨e, hslotb, hsame, hslots⟩ := admitInto_slot (partner := r) (grant := commonServices req row.services) hfree1 hclosed1
  have hshape := queueClaim_sameShape key (queueRadio
    ((placeEntry b key r (commonServices req row.services) (closeSlot .evict false b (radioGood s))).answer
      ((closeSlot .evict false b (radioGood s)).newEntry key r (commonServices req row.services)))
    (placeEntry b key r (commonServices req row.services) (closeSlot .evict false b (radioGood s))))
  have hgrant : e.grant = ⟨req.data && row.services.data, req.voice && row.services.voice⟩ := hsame.grant
  refine ⟨_, e, congrArg Host.Outcome.next (hnew.trans hadmit), hslotb, hsame.key, hsame.partner,
    fun j hj => (hslots j hj).trans (hothers j hj), ?attach, ?closing, fun hne => ?departed, hgrant, ?queue, ?touches⟩
  case attach => rw [admitInto_eq, hshape.attach]; exact congrArg (· ++ [b]) hattach
  case closing => rw [admitInto_eq, hshape.closing]; exact hclosing.trans hnone
  case departed =>
    refine ⟨(radioGood s).departureOf old, ?_, rfl⟩
    have hlist : (admitInto b key r (commonServices req row.services) (closeSlot .evict false b (radioGood s))).hov.departures =
        (closeSlot .evict false b (radioGood s)).hov.departures.filter (fun d => d.key != key) :=
      queueClaim_departures _ _
    rw [hlist, closeSlot_departures rfl false hopen', joinDepartures_fst]
    exact List.mem_filter.2 ⟨List.mem_append_right _ (List.mem_singleton_self _), by simpa [State.departureOf] using hne⟩
  case queue =>
    have hanswer : (admitInto b key r (commonServices req row.services) (closeSlot .evict false b (radioGood s))).rch.queue =
        (closeSlot .evict false b (radioGood s)).rch.queue ++
          [(closeSlot .evict false b (radioGood s)).answer
            ((closeSlot .evict false b (radioGood s)).newEntry key r (commonServices req row.services))] := by
      rw [admitInto_eq, placeEntry_answer, (queueClaim_touches _ _ .rch (by decide)).1]
      refine (queueRadio_room (s := placeEntry b key r (commonServices req row.services)
        (closeSlot .evict false b (radioGood s))) _ ?_).1
      change (closeSlot .evict false b (radioGood s)).rch.queue.length < 16
      rw [hqueue]
      simp only [Bool.false_eq_true, if_false, List.append_nil, List.length_append, List.length_singleton]
      have : (radioGood s).rch.queue.length ≤ 14 := hradio
      omega
    have hgate : (closeSlot .evict false b (radioGood s)).slc = s.slc := hclose .slc (by decide)
    rw [hanswer, hqueue, answer_eq, hgate, hgrant, hsame.state]
    simp only [Bool.false_eq_true, if_false, List.append_nil, List.append_assoc]
    rfl
  case touches =>
    exact ((radioGood_touches s).comp hclose (cs := [.sub, .hov, .bsd, .rch])).comp (admitInto_touches _ _ _ _ _)

end Sys2Proof.Machine
end

section
/-! The dwell and the wake of a DORMANT station (R94, R96, R97; Table 5.3), and what a mark to the next leg comes to. -/

-- One theorem after another: all at once take more threads than the check's memory holds.
set_option Elab.async false

namespace Sys2Proof.Machine

/-! ## The radio channel, as directives are queued -/

/-- A property of the radio channel that the queueing of a directive keeps is kept by every shared operation. -/
theorem radio_shared {P : State → Prop} (hP : ∀ {s t : State}, t.rch = s.rch → t.radioHold = s.radioHold → P s → P t)
    (hqueue : ∀ d {s}, P s → P (queueRadio d s)) : KeptByShared P := by
  have hframe : ∀ {bs : List Block} {s t : State}, Touches bs s t → Block.rch ∉ bs → Block.pins ∉ bs → P s → P t :=
    fun ht hr hp h => hP (ht .rch hr).1 (ht .pins hp).1 h
  exact
    { frame := fun ht h => hframe ht (by decide) (by decide) h
      malformed := fun {s} h => hP (s := s) (t := Machine.countMalformed s) rfl rfl h
      queueRadio := hqueue
      queueTerminal := fun d s h => hframe (queueTerminal_touches d s) (by decide) (by decide) h
      restartSilence := fun now s h => hP (s := s) (t := Machine.restartSilence now s) rfl rfl h
      terminalPin := fun level s h => hP (s := s) (t := { s with terminalHold := level }) rfl rfl h
      announce := fun a s h => hframe (announce_touches a s) (by decide) (by decide) h
      offerBeacon := fun {s} h => hframe (offerBeacon_touches s) (by decide) (by decide) h
      rateSlot := fun final quiet zone link i s h => by
        unfold Machine.rateSlot; split
        · dsimp only; split
          · exact hqueue _ (hframe (setSlot_touches _ _ _) (by decide) (by decide) h)
          · exact hframe (setSlot_touches _ _ _) (by decide) (by decide) h
        · exact h
      offerInterval := fun cause i s h => hframe (offerInterval_touches cause i s) (by decide) (by decide) h
      finishClose := fun cause quiet i s h => by
        unfold Machine.finishClose; split
        · extract_lets r _ s1 s2 s3
          have h1 : P s1 := hframe (Touches.sub s _) (by decide) (by decide) h
          have h2 : P s2 := by
            simp only [s2]; split
            · exact hframe (departureJoin_touches _ _) (by decide) (by decide) h1
            · exact h1
          have h3 : P s3 := by
            simp only [s3]; split
            · exact hqueue _ h2
            · exact h2
          split
          · exact hframe (offerFinal_touches _ _ _) (by decide) (by decide) h3
          · exact hframe (setSlot_touches _ _ _) (by decide) (by decide) h3
        · exact h }

/-- Whether the radio channel is UP is no matter of what is queued to it. -/
theorem radioUp_shared (up : Bool) : KeptByShared fun t => t.rch.up = up :=
  radio_shared (fun hr _ h => by rw [hr]; exact h) fun d s h => by rw [queueRadio_rch, Chan.enqueue_up]; exact h

/-- What waits in the radio queue keeps its place as directives are queued. -/
theorem queueRadio_extends (d : RadioDirective) (s : State) : s.rch.queue <+: (queueRadio d s).rch.queue := by
  rw [queueRadio_rch]
  unfold Chan.enqueue
  split
  · exact List.prefix_rfl
  · exact List.prefix_append _ _

theorem radioQueue_shared (q : List RadioDirective) : KeptByShared fun t => q <+: t.rch.queue :=
  radio_shared (fun hr _ h => by rw [hr]; exact h) fun d s h => h.trans (queueRadio_extends d s)

/-! ## The wake of a DORMANT station (R97) -/

/-- Nothing that a wake does after its two directives takes a directive from the queue. -/
theorem wake_extends (s : State) :
    (queueRadio (.identity s.identityCode) (queueRadio .wake s)).rch.queue <+: (wake s).rch.queue := by
  unfold wake
  extract_lets s1 _ s2
  have h1 : s1.rch.queue <+: (chooseState s2).rch.queue := by rw [(chooseState_touches s2 .rch (by decide)).1]
  exact (radioQueue_shared s1.rch.queue).coverIfServing h1

theorem wake_queue {s : State} (hroom : s.rch.queue.length ≤ 14) :
    s.rch.queue ++ [.wake, .identity (s.tbl.zones.getD s.rtk.zone 0)] <+: (wake s).rch.queue := by
  have hboth := (queueAll_room (ds := [.wake, .identity s.identityCode]) (s := s) (by simp; omega)).1
  exact hboth ▸ wake_extends s

theorem unhealthy_iff {s : State} : s.unhealthy = true ↔ s.prc.healthDeadline = none ∨ s.rch.up = false := by
  simp [State.unhealthy]

/-- What a wake leaves in the coverage block (R97, R141). -/
theorem wake_state (s : State) :
    (wake s).prc.dwellUntil = none ∧ (wake s).prc.pendingWake = false ∧
    (s.prc.healthDeadline = none ∨ s.rch.up = false →
      (wake s).prc.serving = .dark ∧ (wake s).prc.orphanAt = some (s.timebase + 30000)) ∧
    (s.prc.healthDeadline ≠ none → s.rch.up = true → (wake s).prc.serving = .serving) := by
  obtain ⟨c, hprc, -⟩ := wake_prc s
  refine ⟨by rw [hprc], by rw [hprc], fun hsick => ?_, fun hdeadline hup => ?_⟩
  · have h := unhealthy_iff.2 hsick
    exact ⟨by rw [hprc, h]; rfl, by rw [hprc, h]; rfl⟩
  · have h : s.unhealthy = false := Bool.eq_false_iff.2 fun hsick => by simp_all [unhealthy_iff]
    rw [hprc, h]
    rfl

/-! ## A mark to the next leg (R85, R88) -/

theorem takeMark_next {s : State} (hroute : s.tbl.route.length ≠ 0) (hlegs : s.nextLeg < 48)
    (hmoves : s.nextLeg ≠ s.rtk.leg) :
    takeMark s.nextLeg s = legEvaluation { s with rtk := { s.rtk with leg := s.nextLeg } } :=
  (takeMark_of_next hroute (.inr ⟨hlegs, rfl⟩)).trans (if_neg hmoves)

section
variable {s : State}

theorem silenceChanged_of_found_silent (hstate : s.prc.serving = .dormant) :
    silenceChanged true s = { s with
      rtk := { s.rtk with silent := true }, prc := { s.prc with pendingWake := false } } := by
  simp [silenceChanged, hstate]

theorem silenceChanged_of_dwelling (hstate : s.prc.serving = .dormant) (hdwell : s.prc.dwellUntil ≠ none) :
    silenceChanged false s = { s with
      rtk := { s.rtk with silent := false }, prc := { s.prc with pendingWake := true } } := by
  simp [silenceChanged, hstate, hdwell]

theorem silenceChanged_of_dwelt (hstate : s.prc.serving = .dormant) (hdwell : s.prc.dwellUntil = none) :
    silenceChanged false s = wake { s with rtk := { s.rtk with silent := false } } := by
  simp [silenceChanged, hstate, hdwell]

/-- A leg evaluation that finds another silence status: the zone before it, the plan pair after it (R88). -/
theorem legEvaluation_of_silence (hsilent : s.derivedSilent ≠ s.rtk.silent) :
    ∃ z, Touches [.rtk, .sub, .hov, .bsd, .rch] s z ∧ z.rch.up = s.rch.up ∧ (OrdersLaw s → OrdersLaw z) ∧
      (s.derivedZone = s.rtk.zone → z = s) ∧
      Touches [.rtk, .slc, .tch, .dbi] (silenceChanged s.derivedSilent z) (legEvaluation s) ∧
      (s.derivedPlan = s.rtk.planLink ∧ s.derivedNextPlan = s.rtk.nextPlanLink →
        legEvaluation s = silenceChanged s.derivedSilent z) := by
  unfold legEvaluation
  extract_lets s1 s2
  have h2 : s2 = silenceChanged s.derivedSilent s1 := if_neg hsilent
  refine ⟨s1, .ite _ (.refl _ _) (changeZone_touches _ _), ?_, fun h => ?_, fun h => if_pos h, ?_, fun h => ?_⟩
  · simp only [s1]; split
    · rfl
    · exact (radioUp_shared s.rch.up).changeZone _ rfl
  · simp only [s1]; split
    · exact h
    · exact ordersLaw_shared.changeZone _ h
  · exact .ite _ (h2 ▸ .refl _ _) (h2 ▸ handPlan_touches _ _ _)
  · rw [if_pos (by simpa using h), h2]

end

theorem touches_rtk_prc (s : State) (x : Rtk) (y : Prc) : Touches [.rtk, .prc] s { s with rtk := x, prc := y } :=
  (Touches.rtk s x).comp (Touches.prc { s with rtk := x } y)

/-- Settles O16: the dwell's end and a change of the silence status come to `wake` or to one field of the coverage block. -/
theorem dwellExpiryWakes : Obligations.DwellExpiryWakes := by
  refine ⟨fun d s hstate hdwell hdue => ⟨fun hwake => ?_, fun hwake => ?_⟩, fun n s => ?_⟩
  · refine congrArg Host.Outcome.next ?_
    simp [dwellExpired, hstate, hdwell, due, hdue, hwake]
  · have hwakes : dwellExpired s = wake s := by simp [dwellExpired, hstate, hdwell, due, hdue, hwake]
    obtain ⟨h1, h2, h3, h4⟩ := wake_state s
    exact ⟨wake s, congrArg Host.Outcome.next hwakes, h1, h2, h3, h4, wake_queue, wake_touches s⟩
  · intro u next v route same hstate hroute hlegs hmoves hsilent
    obtain ⟨z, hz, hup, -, hzone, hplan, hsame⟩ := legEvaluation_of_silence (s := v) hsilent
    have hmark : Touches [.rtk] u v := .rtk _ _
    have hzprc : z.prc = u.prc := hz .prc (by decide)
    have hznow : z.timebase = u.timebase := hz .timebase (by decide)
    have hprc : (legEvaluation v).prc = (silenceChanged v.derivedSilent z).prc := hplan .prc (by decide)
    have hzstate : z.prc.serving = .dormant := by rw [hzprc]; exact hstate
    have hall : same → legEvaluation v = silenceChanged v.derivedSilent v := fun ⟨h1, h2, h3⟩ => by
      rw [hsame ⟨h2, h3⟩, hzone h1]
    refine ⟨legEvaluation v, congrArg Host.Outcome.next (takeMark_next hroute hlegs hmoves), legEvaluation_rtk v,
      hmark.comp (legEvaluation_touches v), fun hfound hdwell => ⟨?_, fun h => ?_⟩, fun hfound hdwell => ?_,
      fun hfound => ⟨?_, fun h => ?_⟩⟩
    · rw [hprc, hfound, silenceChanged_of_dwelling hzstate (by rw [hzprc]; exact hdwell), ← hzprc]
    · rw [hall h, hfound, silenceChanged_of_dwelling (s := v) hstate hdwell]
      exact hmark.comp (touches_rtk_prc v _ _)
    · have hw : (legEvaluation v).prc = (wake { z with rtk := { z.rtk with silent := false } }).prc := by
        rw [hprc, hfound, silenceChanged_of_dwelt hzstate (by rw [hzprc]; exact hdwell)]
      obtain ⟨h1, h2, h3, h4⟩ := wake_state { z with rtk := { z.rtk with silent := false } }
      rw [← hw] at h1 h2 h3 h4
      dsimp only at h3 h4
      rw [hzprc, hup, hznow] at h3
      rw [hzprc, hup] at h4
      refine ⟨h1, h2, h3, h4, fun h => ?_⟩
      rw [hall h, hfound, silenceChanged_of_dwelt (s := v) hstate hdwell]
      exact ⟨hmark.comp ((Touches.rtk v _).comp (wake_touches _) (cs := [.rtk, .prc, .rch])),
        fun hroom => wake_queue (s := { v with rtk := { v.rtk with silent := false } }) hroom⟩
    · rw [hprc, hfound, silenceChanged_of_found_silent hzstate, ← hzprc]
    · rw [hall h, hfound, silenceChanged_of_found_silent (s := v) hstate]
      exact hmark.comp (touches_rtk_prc v _ _)

end Sys2Proof.Machine
end

section
/-! The events that rate several entries, one after another (R27 to R32): what each leaves in every slot, in the store and in
the radio queue. -/

-- One theorem after another: all at once take more threads than the check's memory holds.
set_option Elab.async false

namespace Sys2Proof.Machine

theorem State.exists_of_isOpen {s : State} {i : Nat} (h : (s.slot i).isOpen = true) : ∃ e, s.slot i = .opened e := by
  cases hx : s.slot i with
  | opened e => exact ⟨e, rfl⟩
  | free => rw [hx] at h; nomatch h
  | closing r => rw [hx] at h; nomatch h

/-! ## One record-making rating -/

/-- An entry as a rating that is not final leaves it under a pair. -/
def State.ratedUnder (s : State) (zone link : Nat) (old : Entry) : Entry :=
  old.rate false (s.prices zone link old.partner)

/-- An entry as the end of its interval leaves it, its record taken where it has content, or deferred (R67, R69, R70). -/
def State.afterOffer (s : State) (cause : Cause) (taken : Bool) (e : Entry) : Entry :=
  if e.hasContent then
    if taken then s.openInterval e else if cause.changesPair then { e with mixed := true } else e
  else s.openInterval e

/-- The record that the end of an interval makes, if any (R67). -/
def State.recordOf (s : State) (cause : Cause) (e : Entry) : Option Record :=
  if e.hasContent then some (s.buildRecord cause e) else none

/-- The BAR that a rating sends, if any (R13). -/
def barOf (old new : Entry) : Option RadioDirective :=
  if old.state = .active ∧ new.state = .barred then some (.bar old.key) else none

theorem barOf_toList (old new : Entry) : (barOf old new).toList = if becameBarred old new then [.bar old.key] else [] := by
  by_cases h : old.state = .active ∧ new.state = .barred
  · rw [barOf, if_pos h, if_pos (becameBarred_iff.2 h)]; rfl
  · rw [barOf, if_neg h, if_neg fun hb => h (becameBarred_iff.1 hb)]; rfl

section
variable {s : State} {cause : Cause} {e : Entry}

theorem State.afterOffer_of_no_content (taken : Bool) (h : e.hasContent = false) :
    s.afterOffer cause taken e = s.openInterval e := by
  simp [State.afterOffer, h]

theorem State.afterOffer_of_taken : s.afterOffer cause true e = s.openInterval e := by
  simp [State.afterOffer]

theorem State.afterOffer_of_mixed (hp : cause.changesPair = true) (h : e.hasContent = true) :
    s.afterOffer cause false e = { e with mixed := true } := by
  simp [State.afterOffer, hp, h]

theorem State.afterOffer_of_deferred (hp : cause.changesPair = false) (h : e.hasContent = true) :
    s.afterOffer cause false e = e := by
  simp [State.afterOffer, hp, h]

/-- The end of an interval leaves whose entry it is, and whether it is BARRED. -/
theorem State.afterOffer_holder (taken : Bool) :
    (s.afterOffer cause taken e).key = e.key ∧ (s.afterOffer cause taken e).partner = e.partner ∧
      (s.afterOffer cause taken e).state = e.state := by
  unfold State.afterOffer
  split
  · split
    · exact ⟨rfl, rfl, rfl⟩
    · split
      · exact ⟨rfl, rfl, rfl⟩
      · exact ⟨rfl, rfl, rfl⟩
  · exact ⟨rfl, rfl, rfl⟩

end

theorem State.setSlot_of_slot {s : State} {i : Nat} {x : Slot} (h : s.slot i = x) (hi : i < s.sub.slots.length) :
    s.setSlot i x = s := by
  have hset : s.sub.slots.set i x = s.sub.slots := by
    rw [← h, s.slot_eq_getElem i hi, List.set_getElem_self]
  rw [State.setSlot, hset]

/-- The end of an interval, whole: the record joins the store where it is taken, and the entry is as it leaves it. -/
theorem offerInterval_eq {s : State} {i : Nat} {e : Entry} (cause : Cause) (h : s.slot i = .opened e) :
    offerInterval cause i s =
      (if e.hasContent && s.takesInterval then storeRecord (s.buildRecord cause e) s else s).setSlot i
        (.opened (s.afterOffer cause s.takesInterval e)) := by
  have hi : i < s.sub.slots.length := s.lt_of_slot i (by simp [h])
  cases hc : e.hasContent with
  | false => rw [offerInterval_of_no_content cause h hc, s.afterOffer_of_no_content _ hc]; rfl
  | true =>
    cases ht : s.takesInterval with
    | true => rw [offerInterval_of_taken cause h hc ht, s.afterOffer_of_taken]; rfl
    | false =>
      cases hp : cause.changesPair with
      | true => rw [offerInterval_of_mixed hp h hc ht, s.afterOffer_of_mixed hp hc]; rfl
      | false =>
        rw [offerInterval_of_deferred hp h hc ht, s.afterOffer_of_deferred hp hc]
        exact (State.setSlot_of_slot h hi).symm

section
variable {s : State} {i : Nat} {old : Entry} (cause : Cause) (zone link : Nat)

theorem State.afterOffer_congr {s t : State} (h : ∀ e, t.openInterval e = s.openInterval e) (cause : Cause) (taken : Bool)
    (e : Entry) : t.afterOffer cause taken e = s.afterOffer cause taken e := by
  simp only [State.afterOffer, h]

theorem recordRating_slot (h : s.slot i = .opened old) : (recordRating cause zone link i s).slot i =
    .opened (s.afterOffer cause s.takesInterval (s.ratedUnder zone link old)) := by
  have hr := (rateSlot_slot false false zone link h).1
  have hi := State.lt_of_slot i (rateSlot false false zone link i s) (by simp [hr])
  rw [recordRating, offerInterval_eq cause hr, State.slot_setSlot_self _ _ _ (by split <;> exact hi),
    State.takesInterval_rateSlot, State.afterOffer_congr (State.openInterval_rateSlot false false zone link i s)]
  rfl

theorem recordRating_store (h : s.slot i = .opened old) : (recordRating cause zone link i s).bsd.store = s.bsd.store ++
    (if (s.ratedUnder zone link old).hasContent && s.takesInterval then
      [⟨s.bsd.nextSequence, s.buildRecord cause (s.ratedUnder zone link old)⟩] else []) := by
  have hr := (rateSlot_slot false false zone link h).1
  rw [recordRating, offerInterval_eq cause hr, State.takesInterval_rateSlot, State.buildRecord_rateSlot]
  change (if _ then storeRecord _ (rateSlot false false zone link i s) else rateSlot false false zone link i s).bsd.store = _
  unfold State.ratedUnder
  split
  · simp [storeRecord]
  · simp

theorem recordRating_queue (h : s.slot i = .opened old) (hroom : s.rch.queue.length < 16) :
    (recordRating cause zone link i s).rch.queue = s.rch.queue ++ (barOf old (s.ratedUnder zone link old)).toList := by
  rw [recordRating, (offerInterval_touches cause i _ .rch (by decide)).1, rateSlot_queue false false zone link h hroom]
  rw [barOf_toList, Bool.not_false, Bool.and_true]
  rfl

theorem recordRating_sameShape (i : Nat) (s : State) : SameShape s (recordRating cause zone link i s) :=
  (rateSlot_sameShape _ _ _ _ _ _).trans (offerInterval_sameShape _ _ _)

end

/-! ## One rating after another -/

/-- Record-making ratings of the slots of a list, each whole before the next (R27). -/
def rateEach (cause : Cause) (zone link : Nat) (l : List Nat) (s : State) : State :=
  l.foldl (fun t i => recordRating cause zone link i t) s

theorem ratingEvent_eq (cause : Cause) (zone link : Nat) (s : State) :
    ratingEvent cause zone link s = rateEach cause zone link s.sub.attachOrder s := rfl

/-- What ratings of the slots `l`, one after another, make of a state. -/
structure RatedEach (cause : Cause) (zone link : Nat) (l : List Nat) (s t : State) : Prop where
  shape  : SameShape s t
  others : ∀ j, j ∉ l → t.slot j = s.slot j
  slots  : ∀ i ∈ l, ∀ old, s.slot i = .opened old →
    ∃ taken, t.slot i = .opened (s.afterOffer cause taken (s.ratedUnder zone link old)) ∧
      (s.bsd.store.length + l.length ≤ 48 ∧ s.sub.closingOrder = [] → taken = true) ∧
      (48 ≤ s.bsd.store.length ∨ s.sub.closingOrder ≠ [] → taken = false)
  store  : s.bsd.store.length + l.length ≤ 48 ∧ s.sub.closingOrder = [] →
    t.bsd.store.map Stored.record = s.bsd.store.map Stored.record ++
      (l.filterMap s.entry?).filterMap fun old => s.recordOf cause (s.ratedUnder zone link old)
  queue  : s.rch.queue.length + l.length ≤ 16 →
    t.rch.queue = s.rch.queue ++ (l.filterMap s.entry?).filterMap fun old => barOf old (s.ratedUnder zone link old)

theorem State.entry?_of_opened {s : State} {i : Nat} {e : Entry} (h : s.slot i = .opened e) : s.entry? i = some e := by
  simp [State.entry?, h]

theorem State.entry?_congr {s t : State} {i : Nat} (h : t.slot i = s.slot i) : t.entry? i = s.entry? i := by
  simp only [State.entry?, h]

theorem filterMap_entry?_congr {s t : State} {l : List Nat} (h : ∀ j ∈ l, t.slot j = s.slot j) :
    l.filterMap t.entry? = l.filterMap s.entry? :=
  List.filterMap_congr fun j hj => State.entry?_congr (h j hj)

theorem rateEach_rated (cause : Cause) (zone link : Nat) (l : List Nat) (s : State) (hn : l.Nodup)
    (hopen : ∀ i ∈ l, (s.slot i).isOpen = true) : RatedEach cause zone link l s (rateEach cause zone link l s) := by
  induction l generalizing s with
  | nil => exact ⟨.of_sub rfl, fun _ _ => rfl, by simp, by simp [rateEach], by simp [rateEach]⟩
  | cons i l ih =>
    obtain ⟨hil, hnl⟩ := List.nodup_cons.1 hn
    obtain ⟨old, hold⟩ := State.exists_of_isOpen (hopen i (by simp))
    set s1 := recordRating cause zone link i s with hs1
    have hkeep : ∀ j, j ≠ i → s1.slot j = s.slot j := (recordRating_keeps hold).1
    have hl : ∀ j ∈ l, s1.slot j = s.slot j := fun j hj => hkeep j fun h => hil (h ▸ hj)
    have hshape : SameShape s s1 := recordRating_sameShape cause zone link i s
    have ht : Touches [.sub, .bsd, .rch] s s1 := recordRating_touches cause zone link i s
    have hprices : ∀ e, s1.ratedUnder zone link e = s.ratedUnder zone link e := fun e => by
      rw [State.ratedUnder, State.prices_congr (ht .tbl (by decide)), State.ratedUnder]
    have hfresh : ∀ e, s1.openInterval e = s.openInterval e :=
      State.openInterval_congr (ht .timebase (by decide)) (ht .rtk (by decide)) (ht .slc (by decide))
    have hrecord : ∀ e, s1.buildRecord cause e = s.buildRecord cause e :=
      State.buildRecord_congr (ht .cfg (by decide)) (ht .rtk (by decide)) cause
    have hstore : s1.bsd.store = _ := recordRating_store cause zone link hold
    have hentries : l.filterMap s1.entry? = l.filterMap s.entry? := filterMap_entry?_congr hl
    have hhead : (i :: l).filterMap s.entry? = old :: l.filterMap s.entry? :=
      List.filterMap_cons_some (State.entry?_of_opened hold)
    obtain ⟨gshape, gothers, gslots, gstore, gqueue⟩ := ih s1 hnl fun j hj => by
      rw [hl j hj]; exact hopen j (by simp [hj])
    have hstep : rateEach cause zone link (i :: l) s = rateEach cause zone link l s1 := rfl
    have hlength : s.bsd.store.length ≤ s1.bsd.store.length ∧ s1.bsd.store.length ≤ s.bsd.store.length + 1 := by
      rw [hstore, List.length_append]
      split <;> simp
    rw [hstep]
    refine ⟨hshape.trans gshape, fun j hj => ?_, fun j hj e he => ?_, fun hroom => ?_, fun hroom => ?_⟩
    · rw [gothers j fun h => hj (by simp [h]), hkeep j fun h => hj (by simp [h])]
    · rcases List.mem_cons.1 hj with rfl | hj
      · refine ⟨s.takesInterval, ?_, fun ⟨hroom, hnone⟩ => ?_, State.takesInterval_eq_false⟩
        · obtain rfl : old = e := by rw [hold] at he; exact Slot.opened.inj he
          rw [gothers j hil, hs1, recordRating_slot cause zone link hold]
        · exact s.takesInterval_iff.2 ⟨by rw [List.length_cons] at hroom; omega, hnone⟩
      · obtain ⟨taken, hslot, hyes, hno⟩ := gslots j hj e ((hl j hj).trans he)
        refine ⟨taken, ?_, fun ⟨hroom, hnone⟩ => hyes ⟨?_, hshape.closing ▸ hnone⟩, fun h => hno ?_⟩
        · rw [hslot, hprices, State.afterOffer_congr hfresh]
        · rw [List.length_cons] at hroom; omega
        · exact h.imp (fun h => h.trans hlength.1) fun h => hshape.closing ▸ h
    · obtain ⟨hfits, hnone⟩ := hroom
      rw [List.length_cons] at hfits
      have htakes : s.takesInterval = true := s.takesInterval_iff.2 ⟨by omega, hnone⟩
      rw [gstore ⟨by omega, hshape.closing ▸ hnone⟩, hentries, hhead, hstore, htakes, Bool.and_true, List.map_append,
        List.filterMap_cons, List.append_assoc]
      simp only [State.recordOf, hprices, hrecord]
      split
      · rfl
      · rfl
    · rw [List.length_cons] at hroom
      have hqueue : s1.rch.queue = _ := recordRating_queue cause zone link hold (by omega)
      have hlen : s1.rch.queue.length ≤ s.rch.queue.length + 1 := by
        rw [hqueue, List.length_append]
        unfold barOf
        split <;> simp
      rw [gqueue (by omega), hentries, hhead, hqueue, List.filterMap_cons, List.append_assoc]
      simp only [hprices]
      cases barOf old (s.ratedUnder zone link old) with
      | none => rfl
      | some d => rfl

/-- A rating event rates the open entries, in attach order (R27). -/
theorem ratingEvent_rated (cause : Cause) (zone link : Nat) {s : State} (h : OrdersLaw s) :
    RatedEach cause zone link s.sub.attachOrder s (ratingEvent cause zone link s) := by
  obtain ⟨-, hn, -, ho, -⟩ := h
  exact rateEach_rated cause zone link s.sub.attachOrder s hn fun i hi => (ho i).1 hi

end Sys2Proof.Machine
end

section
/-! The voyage start at an origin mark (R79, R84): the VOYAGE records, the zeroed K, and the UNBARs in attach order. -/

-- One theorem after another: all at once take more threads than the check's memory holds.
set_option Elab.async false

namespace Sys2Proof.Machine

/-! ## Unbarring (R14) -/

/-- The UNBAR that a voyage start sends for an entry, if any (R14). -/
def unbarOf (e : Entry) : Option RadioDirective := if e.state = .barred then some (.unbar e.key) else none

section
variable {s : State} {i : Nat} {e : Entry}

theorem unbar_eq (h : s.slot i = .opened e) :
    unbar i s = (unbarOf e).elim s fun d => queueRadio d (s.setSlot i (.opened { e with state := .active })) := by
  unfold unbar unbarOf
  simp only [h]
  cases e.state with
  | active => rfl
  | barred => rfl

theorem unbar_slot_self (h : s.slot i = .opened e) : (unbar i s).slot i = .opened { e with state := .active } := by
  have hi : i < s.sub.slots.length := s.lt_of_slot i (by simp [h])
  unfold unbar
  simp only [h]
  cases hstate : e.state with
  | active =>
    rw [show { e with state := EntryState.active } = e by rw [← hstate]]
    exact h
  | barred => exact State.slot_setSlot_self i _ s hi

theorem unbar_slot_ne {j : Nat} (hj : j ≠ i) : (unbar i s).slot j = s.slot j := by
  unfold unbar
  split
  · split
    · exact State.slot_setSlot_ne _ _ _ _ hj.symm
    · rfl
  · rfl

theorem unbar_queue (h : s.slot i = .opened e) (hroom : s.rch.queue.length < 16) :
    (unbar i s).rch.queue = s.rch.queue ++ (unbarOf e).toList := by
  rw [unbar_eq h]
  cases unbarOf e with
  | none => simp
  | some d => exact (queueRadio_room d (s := s.setSlot i _) hroom).1

end

/-- Unbarring the open slots of a list, one after another: each is ACTIVE, and the UNBARs go in that order. -/
theorem unbarAll_unbarred (l : List Nat) (s : State) (hn : l.Nodup) (hopen : ∀ i ∈ l, (s.slot i).isOpen = true) :
    (∀ j, j ∉ l → (l.foldl (fun t i => unbar i t) s).slot j = s.slot j) ∧
      (∀ i ∈ l, ∀ e, s.slot i = .opened e →
        (l.foldl (fun t i => unbar i t) s).slot i = .opened { e with state := .active }) ∧
      (s.rch.queue.length + l.length ≤ 16 →
        (l.foldl (fun t i => unbar i t) s).rch.queue = s.rch.queue ++ (l.filterMap s.entry?).filterMap unbarOf) := by
  induction l generalizing s with
  | nil => exact ⟨fun _ _ => rfl, nofun, by simp⟩
  | cons i l ih =>
    obtain ⟨hil, hnl⟩ := List.nodup_cons.1 hn
    have hl : ∀ j ∈ l, (unbar i s).slot j = s.slot j := fun j hj => unbar_slot_ne fun h => hil (h ▸ hj)
    obtain ⟨gothers, gslots, gqueue⟩ := ih (unbar i s) hnl fun j hj => by rw [hl j hj]; exact hopen j (by simp [hj])
    rw [List.foldl_cons]
    refine ⟨fun j hj => ?_, fun j hj e he => ?_, fun hroom => ?_⟩
    · rw [gothers j fun h => hj (by simp [h]), unbar_slot_ne fun h => hj (by simp [h])]
    · rcases List.mem_cons.1 hj with rfl | hj
      · rw [gothers j hil, unbar_slot_self he]
      · exact gslots j hj e ((hl j hj).trans he)
    · obtain ⟨e, he⟩ := State.exists_of_isOpen (hopen i (by simp))
      rw [List.length_cons] at hroom
      have hqueue := unbar_queue he (by omega)
      have hlen : (unbar i s).rch.queue.length ≤ s.rch.queue.length + 1 := by
        rw [hqueue, List.length_append]
        unfold unbarOf
        split <;> simp
      rw [gqueue (by omega), filterMap_entry?_congr hl, hqueue, List.filterMap_cons_some (State.entry?_of_opened he),
        List.filterMap_cons, List.append_assoc]
      cases unbarOf e with
      | none => rfl
      | some d => rfl

/-- Two readings of the entries of the same slots, entry by entry. -/
theorem filterMap_entry?_bind {β : Type} {s t : State} {l : List Nat} {f g : Entry → Option β}
    (h : ∀ i ∈ l, (t.entry? i).bind f = (s.entry? i).bind g) :
    (l.filterMap t.entry?).filterMap f = (l.filterMap s.entry?).filterMap g := by
  rw [List.filterMap_filterMap, List.filterMap_filterMap]
  exact List.filterMap_congr h

/-! ## The voyage start (R79) -/

section
variable {s : State}

theorem voyageStart_bsd_fields : (voyageStart s).bsd.tallyWord = 0 ∧ (voyageStart s).bsd.tallyCount = 0 ∧
    (voyageStart s).bsd.drain = s.bsd.drain ∧
    (voyageStart s).bsd.store = (ratingEvent .voyage s.rtk.zone s.slc.ratingLink s).bsd.store := by
  have hkept := (drainKept_shared s).ratingEvent .voyage s.rtk.zone s.slc.ratingLink (.refl s)
  unfold voyageStart
  extract_lets s1 _ s2 _ s3 s4 _
  have h4 : s4.bsd = s1.bsd :=
    Touches.foldl (bs := [.sub, .rch]) _ (fun _ _ => unbar_touches _ _) s3.sub.attachOrder s3 .bsd (by decide)
  have hdrain : s4.bsd.drain = s.bsd.drain := by rw [h4]; exact hkept.drain
  have hstore : s4.bsd.store = s1.bsd.store := by rw [h4]
  exact ⟨rfl, rfl, hdrain, hstore⟩

/-- An entry after a voyage start. -/
def State.voyaged (s : State) (taken : Bool) (old : Entry) : Entry :=
  { s.afterOffer .voyage taken (s.ratedUnder s.rtk.zone s.slc.ratingLink old) with k := 0, state := .active }

theorem voyageStart_started (h : OrdersLaw s) :
    SameShape s (voyageStart s) ∧
    (∀ i, (s.slot i).isOpen = false → (voyageStart s).slot i = s.slot i) ∧
    (∀ i old, s.slot i = .opened old → ∃ taken, (voyageStart s).slot i = .opened (s.voyaged taken old) ∧
      (s.bsd.store.length + s.sub.attachOrder.length ≤ 48 ∧ s.sub.closingOrder = [] → taken = true) ∧
      (48 ≤ s.bsd.store.length ∨ s.sub.closingOrder ≠ [] → taken = false)) ∧
    (s.rch.queue.length + 2 * s.sub.attachOrder.length ≤ 16 → (voyageStart s).rch.queue = s.rch.queue ++
      ((s.sub.attachOrder.filterMap s.entry?).filterMap fun old =>
        barOf old (s.ratedUnder s.rtk.zone s.slc.ratingLink old)) ++
      (s.sub.attachOrder.filterMap s.entry?).filterMap fun old =>
        if (s.ratedUnder s.rtk.zone s.slc.ratingLink old).state = .barred then some (.unbar old.key) else none) := by
  have hrated := ratingEvent_rated .voyage s.rtk.zone s.slc.ratingLink h
  obtain ⟨hsize, hn, hnc, hopens, hwaits⟩ := id h
  obtain ⟨hshape, hothers, hslots, -, hqueue⟩ := hrated
  unfold voyageStart
  extract_lets s1 _ s2 _ s3 s4 _
  have hshape3 : SameShape s s3 := SameShape.trans (t := s1) hshape (sameShape_zeroK rfl)
  have hattach : s3.sub.attachOrder = s.sub.attachOrder := hshape3.attach
  have hall := unbarAll_unbarred s3.sub.attachOrder s3 (by rw [hattach]; exact hn)
    fun i hi => by rw [hshape3.opens]; exact (hopens i).1 (hattach ▸ hi)
  obtain ⟨gothers, gslots, gqueue⟩ := hall
  have hzero : ∀ i, s3.slot i = (s1.slot i).zeroK := slot_map_zeroK (s := s1) rfl
  refine ⟨SameShape.trans (hshape3.trans (unbarAll_sameShape s3.sub.attachOrder s3)) (.of_sub rfl), fun i hi => ?_,
    fun i old hold => ?_, fun hroom => ?_⟩
  · have hni : i ∉ s.sub.attachOrder := fun hm => by rw [(hopens i).1 hm] at hi; nomatch hi
    change s4.slot i = _
    rw [gothers i (by rw [hattach]; exact hni), hzero, hothers i hni]
    cases hx : s.slot i with
    | opened e => rw [hx] at hi; nomatch hi
    | free => rfl
    | closing r => rfl
  · have hm : i ∈ s.sub.attachOrder := (hopens i).2 (by rw [hold]; rfl)
    obtain ⟨taken, hslot, hyes, hno⟩ := hslots i hm old hold
    refine ⟨taken, ?_, hyes, hno⟩
    exact gslots i (by rw [hattach]; exact hm) _ ((hzero i).trans (by rw [hslot]; rfl))
  · have hq1 : s3.rch.queue = _ := hqueue (by omega)
    have hlen : s3.rch.queue.length ≤ s.rch.queue.length + s.sub.attachOrder.length := by
      rw [hq1, List.length_append]
      have h1 := List.length_filterMap_le (fun old => barOf old (s.ratedUnder s.rtk.zone s.slc.ratingLink old))
        (s.sub.attachOrder.filterMap s.entry?)
      have h2 := List.length_filterMap_le s.entry? s.sub.attachOrder
      omega
    change s4.rch.queue = _
    rw [gqueue (by rw [hattach]; omega), hq1, hattach]
    congr 1
    refine filterMap_entry?_bind fun i hi => ?_
    obtain ⟨old, hold⟩ := State.exists_of_isOpen ((hopens i).1 hi)
    obtain ⟨taken, hslot, -⟩ := hslots i hi old hold
    rw [State.entry?_of_opened hold, State.entry?_of_opened ((hzero i).trans (by rw [hslot]; rfl))]
    obtain ⟨hkey, -, hstate⟩ := State.afterOffer_holder (s := s) (cause := .voyage)
      (e := s.ratedUnder s.rtk.zone s.slc.ratingLink old) taken
    simp only [Option.bind_some, unbarOf, hkey, hstate]
    rfl

/-- The records that a voyage start stores carry the number of the voyage that ends. -/
theorem voyageStart_store (h : OrdersLaw s)
    (hroom : s.bsd.store.length + s.sub.attachOrder.length ≤ 48 ∧ s.sub.closingOrder = []) :
    (voyageStart s).bsd.store.map Stored.record = s.bsd.store.map Stored.record ++
      (s.sub.attachOrder.filterMap s.entry?).filterMap fun old =>
        s.recordOf .voyage (s.ratedUnder s.rtk.zone s.slc.ratingLink old) := by
  rw [voyageStart_bsd_fields.2.2.2]
  exact (ratingEvent_rated .voyage s.rtk.zone s.slc.ratingLink h).store hroom

end

/-! ## A leg evaluation that finds what is held (R88) -/

theorem legEvaluation_of_held {s : State} (hzone : s.derivedZone = s.rtk.zone) (hsilent : s.derivedSilent = s.rtk.silent)
    (hplan : s.derivedPlan = s.rtk.planLink ∧ s.derivedNextPlan = s.rtk.nextPlanLink) : legEvaluation s = s := by
  simp [legEvaluation, hzone, hsilent, hplan]

/-- What a leg implies rests on the leg and the tables. -/
theorem derived_congr {s t : State} (htbl : t.tbl = s.tbl) (hleg : t.rtk.leg = s.rtk.leg) :
    t.derivedZone = s.derivedZone ∧ t.derivedPlan = s.derivedPlan ∧ t.derivedNextPlan = s.derivedNextPlan ∧
      t.derivedSilent = s.derivedSilent := by
  simp only [State.derivedZone, State.derivedPlan, State.derivedNextPlan, State.derivedSilent, State.nextLeg,
    State.legRow, htbl, hleg, and_self]

/-- No leg evaluation touches the pending claims. -/
theorem pendingClaims_shared (l : List Nat) : KeptByShared fun t => t.hov.pendingClaims = l where
  frame ht h := by rw [show _ = _ from ht .hov (by decide)]; exact h
  malformed h := h
  queueRadio _ _ h := h
  queueTerminal _ _ h := h
  restartSilence _ _ h := h
  terminalPin _ _ h := h
  announce a s h := by rw [show _ = _ from announce_touches a s .hov (by decide)]; exact h
  offerBeacon {s} h := by rw [show _ = _ from offerBeacon_touches s .hov (by decide)]; exact h
  rateSlot final quiet zone link i s h := by rw [rateSlot_hov]; exact h
  offerInterval cause i s h := by rw [show _ = _ from offerInterval_touches cause i s .hov (by decide)]; exact h
  finishClose cause quiet i s h := by
    unfold Machine.finishClose; split
    · extract_lets r _ s1 s2 s3
      have h2 : s2.hov.pendingClaims = l := by
        simp only [s2]; split
        · exact h
        · exact h
      have h3 : s3.hov.pendingClaims = l := by
        simp only [s3]; split
        · exact h2
        · exact h2
      split
      · rw [show _ = _ from offerFinal_touches r i s3 .hov (by decide)]; exact h3
      · exact h3
    · exact h

/-- Settles O14: the voyage start's rating event, then its zeroed K and UNBARs, then a leg evaluation that finds what is
held. -/
theorem originMarkStartsAVoyage : Obligations.OriginMarkStartsAVoyage := by
  intro n s u v
  set t0 := voyageStart u with ht0
  have hrtk : (legEvaluation t0).rtk = _ := legEvaluation_rtk t0
  have hrtk0 : t0.rtk = _ := voyageStart_rtk u
  obtain ⟨hword, hcount, hdrain, -⟩ := voyageStart_bsd_fields (s := u)
  have hkept := (drainKept_shared t0).legEvaluation (.refl t0)
  have htbl : t0.tbl = u.tbl := voyageStart_touches u .tbl (by decide)
  have hclaims : (legEvaluation t0).hov.pendingClaims = u.hov.pendingClaims :=
    (pendingClaims_shared _).legEvaluation (by rw [ht0, voyageStart_hov])
  refine ⟨legEvaluation t0, rfl, by rw [hrtk, hrtk0]; rfl, by rw [hrtk, hrtk0], hkept.tallyWord.trans hword,
    hkept.tallyCount.trans hcount, hkept.drain.trans hdrain, hclaims, (legEvaluation_tbl t0).trans htbl,
    fun horders hzone hsilent hplan hnext => ?_⟩
  obtain ⟨hz, hp, hnp, hs⟩ := derived_congr (s := v) (t := t0) htbl (by rw [hrtk0])
  have hsame : legEvaluation t0 = t0 := legEvaluation_of_held (by rw [hz, hzone, hrtk0])
    (by rw [hs, hsilent, hrtk0]) ⟨by rw [hp, hplan, hrtk0], by rw [hnp, hnext, hrtk0]⟩
  obtain ⟨hshape, hshut, hslots, hqueue⟩ := voyageStart_started horders
  intro rated inOrder room
  rw [hsame]
  refine ⟨by rw [ht0, voyageStart_hov], hshape.attach, hshape.closing,
    State.forall_opened_iff.2 fun i e he => voyageStart_fresh horders he, hshut, fun i old hold => ?_,
    fun hroom => voyageStart_store horders hroom, hqueue, (voyageStart_touches u).mono⟩
  obtain ⟨taken, hslot, hyes, hno⟩ := hslots i old hold
  intro e new
  refine ⟨fun hc => ?_, fun hc hroom => ?_, fun hc hfull => ?_⟩
  · rw [hslot, State.voyaged, u.afterOffer_of_no_content (e := u.ratedUnder u.rtk.zone u.slc.ratingLink old) taken hc]; rfl
  · rw [hslot, State.voyaged, hyes hroom, u.afterOffer_of_taken]; rfl
  · rw [hslot, State.voyaged, hno hfull, u.afterOffer_of_deferred (e := u.ratedUnder u.rtk.zone u.slc.ratingLink old) rfl hc]; rfl

end Sys2Proof.Machine
end

section
/-! The leg evaluation (R83, R88 to R95): what a leg implies, and what follows where the zone, the silence status or the plan
pair differs. -/

-- One theorem after another: all at once take more threads than the check's memory holds.
set_option Elab.async false

namespace Sys2Proof.Machine

/-! ## Entries closed WITHDRAWN (R15, R89) -/

/-- The entry of slot `i` is open and ACTIVE: a rating of it may still send BAR. -/
def State.mayBar (s : State) (i : Nat) : Bool :=
  match s.slot i with
  | .opened e => e.state == .active
  | _ => false

theorem State.mayBar_of_opened {s : State} {i : Nat} {e : Entry} (h : s.slot i = .opened e) :
    s.mayBar i = (e.state == .active) := by
  simp [State.mayBar, h]

theorem State.mayBar_congr {s t : State} {i : Nat} (h : t.slot i = s.slot i) : t.mayBar i = s.mayBar i := by
  simp only [State.mayBar, h]

/-- A close with RELEASE-SUB: the queue is longer by it, and by a BAR where the entry was ACTIVE. -/
theorem closeSlot_release {s : State} {i : Nat} {old : Entry} {cause : Cause} (hcause : cause.releasesSub = true)
    (h : s.slot i = .opened old) (hroom : s.rch.queue.length + 1 + [i].countP s.mayBar ≤ 16) :
    s.rch.queue <+: (closeSlot cause false i s).rch.queue ∧
      .releaseSub old.key ∈ (closeSlot cause false i s).rch.queue ∧
      (closeSlot cause false i s).rch.queue.length ≤ s.rch.queue.length + 1 + [i].countP s.mayBar := by
  have hr := (rateSlot_slot true false s.rtk.zone s.slc.ratingLink h).1
  have hqueue := rateSlot_queue true false s.rtk.zone s.slc.ratingLink h (by omega)
  simp only [Bool.not_false, Bool.and_true] at hqueue
  have hlen : (rateSlot true false s.rtk.zone s.slc.ratingLink i s).rch.queue.length ≤
      s.rch.queue.length + [i].countP s.mayBar := by
    rw [hqueue, List.length_append, List.countP_singleton, State.mayBar_of_opened h]
    split
    · next hbars => simp [(becameBarred_iff.1 hbars).1]
    · simp
  have hsent := (finishClose_departure_directive (cause := cause) (quiet := false) hr).2
  rw [hcause, Bool.not_false, Bool.and_true, if_pos rfl] at hsent
  have hend : (closeSlot cause false i s).rch.queue =
      (rateSlot true false s.rtk.zone s.slc.ratingLink i s).rch.queue ++ [.releaseSub old.key] := by
    rw [closeSlot, hsent]
    exact (queueRadio_room _ (show _ < Config.radioPlaces by rw [Config.radioPlaces]; omega)).1
  refine ⟨?_, by rw [hend]; simp, ?_⟩
  · rw [hend, hqueue, List.append_assoc]
    exact List.prefix_append _ _
  · rw [hend, List.length_append, List.length_singleton]
    omega

/-- Closes with RELEASE-SUB of open slots, one after another, into a queue with room for all they may send. -/
theorem closeAll_release {cause : Cause} (hcause : cause.releasesSub = true) (l : List Nat) (s : State) (hn : l.Nodup)
    (hopen : ∀ i ∈ l, (s.slot i).isOpen = true) (hroom : s.rch.queue.length + l.length + l.countP s.mayBar ≤ 16) :
    s.rch.queue <+: (closeAll cause false l s).rch.queue ∧
      ∀ i ∈ l, ∀ e, s.slot i = .opened e → .releaseSub e.key ∈ (closeAll cause false l s).rch.queue := by
  induction l generalizing s with
  | nil => exact ⟨List.prefix_rfl, nofun⟩
  | cons i l ih =>
    obtain ⟨hil, hnl⟩ := List.nodup_cons.1 hn
    obtain ⟨old, hold⟩ := State.exists_of_isOpen (hopen i (by simp))
    have hkeep : ∀ j ∈ l, (closeSlot cause false i s).slot j = s.slot j := fun j hj =>
      (closeSlot_orders cause false hold).2.1 j fun h => hil (h ▸ hj)
    rw [← List.singleton_append, List.countP_append, List.length_append, List.length_singleton] at hroom
    obtain ⟨hext, hsent, hlen⟩ := closeSlot_release hcause hold (by omega)
    have hcount : l.countP (closeSlot cause false i s).mayBar = l.countP s.mayBar :=
      List.countP_congr fun j hj => by rw [State.mayBar_congr (hkeep j hj)]
    obtain ⟨gext, gsent⟩ := ih (closeSlot cause false i s) hnl
      (fun j hj => by rw [hkeep j hj]; exact hopen j (by simp [hj])) (by omega)
    have hfold : closeAll cause false (i :: l) s = closeAll cause false l (closeSlot cause false i s) := rfl
    rw [hfold]
    refine ⟨hext.trans gext, fun j hj e he => ?_⟩
    rcases List.mem_cons.1 hj with rfl | hj
    · obtain rfl : old = e := by rw [hold] at he; exact Slot.opened.inj he
      exact gext.subset hsent
    · exact gsent j hj e ((hkeep j hj).trans he)

/-- Closes at a cause by which no key departs leave the departure list and the pending claims. -/
theorem closeAll_hov {cause : Cause} {quiet : Bool} (hcause : cause.departs = false) (l : List Nat) (s : State) :
    (closeAll cause quiet l s).hov = s.hov :=
  List.foldlRecOn (motive := fun t : State => t.hov = s.hov) l (fun t i => closeSlot cause quiet i t) rfl
    fun t ht i _ => by
      by_cases hopen : (t.slot i).isOpen = true
      · obtain ⟨e, he⟩ := State.exists_of_isOpen hopen
        rw [closeSlot_hov he, hcause]
        exact ht
      · rw [closeSlot_not_open cause quiet fun e he => hopen (by rw [he]; rfl)]
        exact ht

/-- The slots that a re-check closes WITHDRAWN, out of the attach order, and what becomes of the table. -/
theorem withdraw_table {s : State} {l : List Nat} (horders : OrdersLaw s) (hl : l.Sublist s.sub.attachOrder) :
    (∀ i ∈ l, ((closeAll .withdrawn false l s).slot i).isOpen = false ∧
      i ∉ (closeAll .withdrawn false l s).sub.attachOrder) ∧
    (∀ i, i ∉ l → (closeAll .withdrawn false l s).slot i = s.slot i ∧
      ((s.slot i).isOpen = true → i ∈ (closeAll .withdrawn false l s).sub.attachOrder)) ∧
    (closeAll .withdrawn false l s).sub.attachOrder.Sublist s.sub.attachOrder := by
  obtain ⟨-, hn, -, hopens, -⟩ := id horders
  obtain ⟨hclosed, hothers, hattach, -⟩ := closeAll_orders .withdrawn false l s (hn.sublist hl)
    fun i hi => (hopens i).1 (hl.subset hi)
  obtain ⟨-, -, -, hopens', -⟩ : OrdersLaw (closeAll .withdrawn false l s) := ordersLaw_shared.closeAll _ _ l horders
  refine ⟨fun i hi => ⟨hclosed i hi, fun hm => ?_⟩, fun i hi => ⟨hothers i hi, fun ho => ?_⟩, ?_⟩
  · have := (hopens' i).1 hm
    rw [hclosed i hi] at this
    nomatch this
  · exact (hopens' i).2 (by rw [hothers i hi]; exact ho)
  · rw [hattach]
    exact List.diff_sublist _ _

theorem PartnerRow.fails_iff {r : PartnerRow} {zone : Nat} :
    r.fails zone = true ↔ r.home = 0 ∨ r.suspended = true ∨ r.zones.getLsbD zone = false := by
  simp [PartnerRow.fails, PartnerRow.permits, or_assoc]

theorem State.failsRecheck_of_opened {s : State} {i : Nat} {e : Entry} (h : s.slot i = .opened e) :
    s.failsRecheck i = (s.partnerRow e.partner).fails s.rtk.zone := by
  simp [State.failsRecheck, h]

/-! ## A zone change (R31, R89) -/

/-- The BARs of a rating event and the BARs that may still follow go to different entries. -/
theorem bars_le {s t : State} {cause : Cause} {zone link : Nat} {l : List Nat} (h : RatedEach cause zone link l s t) :
    ((l.filterMap s.entry?).filterMap fun old => barOf old (s.ratedUnder zone link old)).length + l.countP t.mayBar ≤
      l.length := by
  rw [List.filterMap_filterMap, List.length_filterMap_eq_countP, List.length_eq_countP_add_countP t.mayBar (l := l)]
  rw [Nat.add_comm]
  refine Nat.add_le_add_left (List.countP_mono_left fun i hi hsome => ?_) _
  cases hx : s.entry? i with
  | none => rw [hx] at hsome; nomatch hsome
  | some old =>
    have hold : s.slot i = .opened old := by
      unfold State.entry? at hx
      split at hx
      · next e he => rw [he]; exact congrArg Slot.opened (Option.some.inj hx)
      · nomatch hx
    obtain ⟨taken, hslot, -⟩ := h.slots i hi old hold
    rw [hx, Option.bind_some, barOf] at hsome
    split at hsome
    · next hbars =>
      rw [State.mayBar_of_opened hslot, State.afterOffer_holder taken |>.2.2, hbars.2]
      rfl
    · nomatch hsome

/-- A zone change with no entry open. -/
theorem changeZone_of_none {s : State} (zone : Nat) (h : s.sub.attachOrder = []) :
    changeZone zone s = queueRadio (.identity (s.tbl.zones.getD zone 0)) { s with rtk := { s.rtk with zone := zone } } := by
  simp [changeZone, ratingEvent, h, recheckAll, closeAll, sendIdentity, State.identityCode]

/-- What a zone change does to an open entry: its ZONE record, and its close where its partner row fails the new zone. -/
structure ZoneChanged (zone i : Nat) (old : Entry) (s t : State) : Prop where
  outcome : ∃ taken,
    (s.bsd.store.length + s.sub.attachOrder.length ≤ 48 ∧ s.sub.closingOrder = [] → taken = true) ∧
    (48 ≤ s.bsd.store.length ∨ s.sub.closingOrder ≠ [] → taken = false) ∧
    ((s.partnerRow old.partner).fails zone = false → i ∈ t.sub.attachOrder ∧
      t.slot i = .opened (State.afterOffer { s with rtk := { s.rtk with zone := zone } } .zone taken
        (s.ratedUnder s.rtk.zone s.slc.ratingLink old)))
  stored : s.bsd.store.length + s.sub.attachOrder.length ≤ 48 ∧ s.sub.closingOrder = [] →
    (s.ratedUnder s.rtk.zone s.slc.ratingLink old).hasContent = true →
    ∃ r ∈ t.bsd.store, r.record = s.buildRecord .zone (s.ratedUnder s.rtk.zone s.slc.ratingLink old)
  closed : (s.partnerRow old.partner).fails zone = true → (t.slot i).isOpen = false ∧ i ∉ t.sub.attachOrder ∧
    (s.rch.queue.length + 2 * s.sub.attachOrder.length < 16 → .releaseSub old.key ∈ t.rch.queue)

/-- The record of an entry with content is among those that a rating event stores. -/
theorem RatedEach.stored {s t : State} {cause : Cause} {zone link i : Nat} {l : List Nat} {old : Entry}
    (h : RatedEach cause zone link l s t) (hi : i ∈ l) (hold : s.slot i = .opened old)
    (hroom : s.bsd.store.length + l.length ≤ 48 ∧ s.sub.closingOrder = [])
    (hc : (s.ratedUnder zone link old).hasContent = true) :
    ∃ r ∈ t.bsd.store, r.record = s.buildRecord cause (s.ratedUnder zone link old) := by
  have hm : s.buildRecord cause (s.ratedUnder zone link old) ∈ t.bsd.store.map Stored.record := by
    rw [h.store hroom]
    refine List.mem_append_right _ (List.mem_filterMap.2 ⟨old, List.mem_filterMap.2 ⟨i, hi, ?_⟩, ?_⟩)
    · exact State.entry?_of_opened hold
    · rw [State.recordOf, if_pos hc]
  exact List.mem_map.1 hm

theorem changeZone_changed {s : State} (zone : Nat) (horders : OrdersLaw s) :
    (changeZone zone s).hov = s.hov ∧ (changeZone zone s).sub.attachOrder.Sublist s.sub.attachOrder ∧
    (s.rch.queue.length + 2 * s.sub.attachOrder.length < 16 →
      .identity (s.tbl.zones.getD zone 0) ∈ (changeZone zone s).rch.queue) ∧
    ∀ i old, s.slot i = .opened old → ZoneChanged zone i old s (changeZone zone s) := by
  set w : State := { s with rtk := { s.rtk with zone := zone } } with hw
  set z := ratingEvent .zone s.rtk.zone s.slc.ratingLink w with hz
  set x := sendIdentity z with hx
  have hchange : changeZone zone s = recheckAll x := rfl
  have hworders : OrdersLaw w := horders.of_sub rfl
  have hrated : RatedEach .zone s.rtk.zone s.slc.ratingLink s.sub.attachOrder w z := ratingEvent_rated .zone _ _ hworders
  have hztouch : Touches [.sub, .bsd, .rch] w z := ratingEvent_touches _ _ _ w
  have hxorders : OrdersLaw x := ordersLaw_shared.sendIdentity (ordersLaw_shared.ratingEvent _ _ _ hworders)
  have hattach : x.sub.attachOrder = s.sub.attachOrder := hrated.shape.attach
  have hslot : ∀ i, x.slot i = z.slot i := fun _ => rfl
  have htbl : x.tbl = s.tbl := hztouch .tbl (by decide)
  have hzone : x.rtk.zone = zone := by rw [show x.rtk = w.rtk from hztouch .rtk (by decide)]
  have hcode : z.identityCode = s.tbl.zones.getD zone 0 := by rw [State.identityCode, ← hzone, ← htbl]; rfl
  set l := x.sub.attachOrder.filter x.failsRecheck with hl
  have hsub : l.Sublist x.sub.attachOrder := List.filter_sublist
  obtain ⟨-, hn, -, hopens, -⟩ := id horders
  obtain ⟨hclosed, hkept, hsublist⟩ := withdraw_table hxorders hsub
  have hroom : s.rch.queue.length + 2 * s.sub.attachOrder.length < 16 →
      x.rch.queue = z.rch.queue ++ [.identity (s.tbl.zones.getD zone 0)] ∧
        x.rch.queue.length + l.length + l.countP x.mayBar ≤ 16 := fun hroom => by
    have hbars := bars_le hrated
    have hzq : z.rch.queue = s.rch.queue ++ _ := hrated.queue (show s.rch.queue.length + _ ≤ 16 by omega)
    have hzlen := congrArg List.length hzq
    rw [List.length_append] at hzlen
    have hxq := (queueRadio_room (.identity z.identityCode) (s := z) (by rw [Config.radioPlaces]; omega)).1
    rw [hcode] at hxq
    have hxlen := congrArg List.length hxq
    rw [List.length_append, List.length_singleton] at hxlen
    have hlen := hsub.length_le
    have hcount : l.countP x.mayBar ≤ s.sub.attachOrder.countP z.mayBar := hattach ▸ hsub.countP_le (p := x.mayBar)
    rw [hattach] at hlen
    have hx' : x = queueRadio (.identity (s.tbl.zones.getD zone 0)) z := by rw [hx, sendIdentity, hcode]
    rw [← hx'] at hxq hxlen
    exact ⟨hxq, by omega⟩
  have hreleased : s.rch.queue.length + 2 * s.sub.attachOrder.length < 16 → _ := fun h =>
    closeAll_release (cause := .withdrawn) rfl l x (by rw [hl, hattach]; exact hn.filter _)
      (fun i hi => by rw [hslot, hrated.shape.opens]; exact (hopens i).1 (hattach ▸ hsub.subset hi)) (hroom h).2
  refine ⟨?_, hattach ▸ hsublist, fun h => ?_, fun i old hold => ?_⟩
  · rw [hchange, recheckAll, closeAll_hov rfl]
    exact hztouch .hov (by decide)
  · exact (hreleased h).1.subset (by rw [(hroom h).1]; simp)
  · have hi : i ∈ s.sub.attachOrder := (hopens i).2 (by rw [hold]; rfl)
    obtain ⟨taken, hafter, hyes, hno⟩ := hrated.slots i hi old hold
    obtain ⟨hkey, hpartner, -⟩ := State.afterOffer_holder (s := w) (cause := .zone)
      (e := w.ratedUnder s.rtk.zone s.slc.ratingLink old) taken
    have hfails : x.failsRecheck i = (s.partnerRow old.partner).fails zone := by
      rw [State.failsRecheck_of_opened (s := x) hafter, hpartner, hzone, State.partnerRow, htbl]
      rfl
    have hin : i ∈ l ↔ (s.partnerRow old.partner).fails zone = true := by
      rw [hl, List.mem_filter, hfails, hattach]
      exact and_iff_right hi
    refine ⟨⟨taken, hyes, hno, fun hpass => ?_⟩, fun hfits hc => ?_, fun hfail => ?_⟩
    · have hni : i ∉ l := fun h => by rw [hin.1 h] at hpass; nomatch hpass
      exact ⟨(hkept i hni).2 (by rw [hslot, hafter]; rfl), (hkept i hni).1.trans hafter⟩
    · obtain ⟨r, hr, hrec⟩ := hrated.stored hi hold hfits hc
      have hkeptStore := ((drainKept_shared x).recheckAll (.refl x)).store
      exact ⟨r, hkeptStore.subset hr, hrec⟩
    · obtain ⟨h1, h2⟩ := hclosed i (hin.2 hfail)
      refine ⟨h1, h2, fun h => ?_⟩
      have := (hreleased h).2 i (hin.2 hfail) _ hafter
      rw [hkey] at this
      exact this

/-! ## Where one kind of held value differs (R88) -/

section
variable {s : State}

theorem legEvaluation_of_plan (hzone : s.derivedZone = s.rtk.zone) (hsilent : s.derivedSilent = s.rtk.silent)
    (hplan : ¬(s.derivedPlan = s.rtk.planLink ∧ s.derivedNextPlan = s.rtk.nextPlanLink)) :
    legEvaluation s = handPlan s.derivedPlan s.derivedNextPlan s := by
  simp [legEvaluation, hzone, hsilent, hplan]

theorem legEvaluation_of_zone (hzone : s.derivedZone ≠ s.rtk.zone) (hsilent : s.derivedSilent = s.rtk.silent)
    (hplan : s.derivedPlan = s.rtk.planLink ∧ s.derivedNextPlan = s.rtk.nextPlanLink) :
    legEvaluation s = changeZone s.derivedZone s := by
  simp [legEvaluation, hzone, hsilent, hplan]

/-- What a leg implies is read from the ROUTE header and the rows of the leg and of the one after it (R83). -/
theorem derived_eq (s : State) :
    (s.tbl.route.length = 0 → s.derivedZone = 0 ∧ s.derivedPlan = 0 ∧ s.derivedNextPlan = 0) ∧
    (s.tbl.route.length ≠ 0 → s.derivedZone = (s.legRow s.rtk.leg).zone ∧ s.derivedPlan = (s.legRow s.rtk.leg).link ∧
      s.derivedNextPlan = (s.legRow s.nextLeg).link) :=
  ⟨fun h => ⟨if_pos h, if_pos h, if_pos h⟩, fun h => ⟨if_neg h, if_neg h, if_neg h⟩⟩

/-- The cover of a leg by a SILENCE row, one that wraps round the route's end too (R93). -/
theorem SilenceRow.covers_iff {len leg : Nat} {r : SilenceRow} : r.covers len leg = true ↔
    r.enabled = true ∧ r.first < len ∧ r.last < len ∧
      ((r.first ≤ r.last ∧ r.first ≤ leg ∧ leg ≤ r.last) ∨
        (r.last < r.first ∧ ((r.first ≤ leg ∧ leg ≤ len - 1) ∨ leg ≤ r.last))) := by
  rw [SilenceRow.covers, SilenceRow.active]
  by_cases h : r.first ≤ r.last
  · simp only [h, if_true, Bool.and_eq_true, decide_eq_true_eq]
    constructor
    · rintro ⟨⟨⟨h1, h2⟩, h3⟩, h4, h5⟩
      exact ⟨h1, h2, h3, .inl ⟨trivial, h4, h5⟩⟩
    · rintro ⟨h1, h2, h3, h4 | h4⟩
      · exact ⟨⟨⟨h1, h2⟩, h3⟩, h4.2⟩
      · omega
  · simp only [h, if_false, Bool.and_eq_true, Bool.or_eq_true, decide_eq_true_eq]
    constructor
    · rintro ⟨⟨⟨h1, h2⟩, h3⟩, h4⟩
      exact ⟨h1, h2, h3, .inr ⟨by omega, h4.imp (fun h => ⟨h.1, by omega⟩) id⟩⟩
    · rintro ⟨h1, h2, h3, h4 | h4⟩
      · exact h4.1.elim
      · exact ⟨⟨⟨h1, h2⟩, h3⟩, h4.2.imp (fun h => ⟨h.1, by omega⟩) id⟩

/-- A silence window is entered from SERVING or DARK: the station is DORMANT (R94, R95). -/
theorem silenceChanged_of_serving (h : s.prc.serving = .serving ∨ s.prc.serving = .dark) :
    silenceChanged true s = enterDormant { s with rtk := { s.rtk with silent := true } } := by
  obtain h | h := h
  · simp [silenceChanged, h]
  · simp [silenceChanged, h]

/-- The entry into DORMANT leaves no entry open (R95). -/
theorem enterDormant_closed (h : OrdersLaw s) (i : Nat) : ((enterDormant s).slot i).isOpen = false := by
  rw [State.slot_congr (s := sweep .dormant false (setServing .dormant s)) (by rw [enterDormant_sub])]
  exact (sweep_orders (s := setServing .dormant s) .dormant false h).2.1 i

end

/-- Settles O13: each part of a leg evaluation by the value that differs; the zone's by the rating event and the re-check. -/
theorem legEvaluationActsOnWhatDiffers : Obligations.LegEvaluationActsOnWhatDiffers := by
  refine ⟨fun s => ?_, fun n s => ?_, fun n s => ?_⟩
  · intro len leg row
    refine ⟨(derived_eq s).1, (derived_eq s).2, ?_⟩
    rw [State.derivedSilent, List.any_eq_true]
    simp only [SilenceRow.covers_iff]
    rfl
  · intro u next v w samePlan hroute hlegs hmoves hsilent
    have hmark : exec (.waypoint n (some next)) s = .next (legEvaluation v) :=
      congrArg Host.Outcome.next (takeMark_next hroute hlegs hmoves)
    rw [hmark]
    refine ⟨fun hzone hplan => ?_, fun hzone hplan => ?_, fun hzone hplan hnone => ?_, fun hzone hplan horders hroom => ?_⟩
    · rw [legEvaluation_of_held (s := v) hzone hsilent hplan]
    · rw [legEvaluation_of_plan (s := v) hzone hsilent hplan]; rfl
    · rw [legEvaluation_of_zone (s := v) hzone hsilent hplan, changeZone_of_none (s := v) _ hnone]
    · have hv : OrdersLaw v := horders.of_sub rfl
      obtain ⟨hhov, hattach, hidentity, hentries⟩ := changeZone_changed (s := v) v.derivedZone hv
      have ht : Touches [.rtk, .sub, .bsd, .rch] u (changeZone v.derivedZone v) :=
        Touches.without (bs := [.rtk, .sub, .hov, .bsd, .rch])
          ((Touches.rtk u _).comp (changeZone_touches v.derivedZone v)) .hov hhov
      refine ⟨changeZone v.derivedZone v, by rw [legEvaluation_of_zone (s := v) hzone hsilent hplan],
        changeZone_rtk v _, hhov, hidentity hroom, hattach, fun i old hold => ?_, ht⟩
      obtain ⟨⟨taken, hyes, hno, hpass⟩, hstored, hclosed⟩ := hentries i old hold
      intro e row fails room
      refine ⟨fun hc hroom' => hstored hroom' hc, fun hfails => ?_, fun hfails => ?_⟩
      · obtain ⟨h1, h2, h3⟩ := hclosed (PartnerRow.fails_iff.2 hfails)
        exact ⟨h1, h2, h3 hroom⟩
      · obtain ⟨hin, hslot⟩ := hpass (Bool.eq_false_iff.2 fun h => hfails (PartnerRow.fails_iff.1 h))
        refine ⟨hin, fun hc => ?_, fun hc hroom' => ?_, fun hc hfull => ?_⟩
        · rw [hslot, State.afterOffer_of_no_content (e := v.ratedUnder v.rtk.zone v.slc.ratingLink old) taken hc]; rfl
        · rw [hslot, hyes hroom', State.afterOffer_of_taken]; rfl
        · rw [hslot, hno hfull, State.afterOffer_of_mixed (e := v.ratedUnder v.rtk.zone v.slc.ratingLink old) rfl hc]; rfl
  · intro u next v horders hroute hlegs hmoves hloud hsilent hstate
    have hdiffers : v.derivedSilent ≠ v.rtk.silent := by
      rw [hsilent, show v.rtk.silent = false from hloud]
      nofun
    obtain ⟨z, hz, -, horders', -, hlast, -⟩ := legEvaluation_of_silence (s := v) hdiffers
    have hzprc : z.prc = u.prc := hz .prc (by decide)
    have hznow : z.timebase = u.timebase := hz .timebase (by decide)
    set d : State := { z with rtk := { z.rtk with silent := true } } with hd
    have hentered : silenceChanged v.derivedSilent z = enterDormant d := by
      rw [hsilent, silenceChanged_of_serving (by rw [hzprc]; exact hstate)]
    rw [hentered] at hlast
    have hdorders : OrdersLaw d := (horders' (horders.of_sub rfl)).of_sub rfl
    have hprc : (legEvaluation v).prc = _ := (show _ = _ from hlast .prc (by decide)).trans (enterDormant_prc d)
    have hsub : (legEvaluation v).sub = (enterDormant d).sub := hlast .sub (by decide)
    refine ⟨legEvaluation v, congrArg Host.Outcome.next (takeMark_next hroute hlegs hmoves),
      by rw [legEvaluation_rtk]; exact hsilent, by rw [hprc], by rw [hsub]; exact enterDormant_attachOrder hdorders,
      fun i => ?_, by rw [hprc], by rw [hprc], by rw [hprc, hd, ← hznow], by rw [hprc],
      (Touches.rtk u _).comp (legEvaluation_touches v)⟩
    rw [State.slot_congr (congrArg Sub.slots hsub)]
    exact enterDormant_closed hdorders i

end Sys2Proof.Machine
end

section
/-! The carrier view, with the rating link, the shore hold and the data gate that follow it (R109, R114 to R121). -/

-- One theorem after another: all at once take more threads than the check's memory holds.
set_option Elab.async false

namespace Sys2Proof.Machine

/-! ## The data gate (R121) -/

section
variable (s : State)

theorem evaluateGate_viewPart :
    (evaluateGate s).viewPart = (s.slc.view, s.slc.shoreHold, s.gateCondition, s.slc.ratingLink) := by
  unfold evaluateGate State.viewPart
  split
  · next h => rw [h]
  · rfl

/-- Of shore link control the evaluation of the gate moves the gate alone. -/
theorem evaluateGate_slc : (evaluateGate s).slc = { s.slc with gateOpen := s.gateCondition } := by
  unfold evaluateGate
  split
  · next h => rw [h]
  · rfl

variable {s}

/-- DATA-GATE goes where the gate changes. -/
theorem evaluateGate_queue (hroom : s.rch.queue.length < 16) : (evaluateGate s).rch.queue = s.rch.queue ++
    (if s.slc.gateOpen = s.gateCondition then [] else [.dataGate s.gateCondition]) := by
  unfold evaluateGate
  by_cases h : s.gateCondition = s.slc.gateOpen
  · rw [if_pos h, if_pos h.symm, List.append_nil]
  · rw [if_neg h, if_neg (Ne.symm h)]
    exact (queueRadio_room (.dataGate s.gateCondition) (s := { s with slc := { s.slc with gateOpen := s.gateCondition } })
      hroom).1

end

/-! ## The rating link (R31, R120) -/

theorem updateRatingLink_same {link : Nat} {s : State} (h : s.slc.ratingLink = link) : updateRatingLink link s = s :=
  if_pos h

theorem updateRatingLink_event {link : Nat} {s : State} (h : s.slc.ratingLink ≠ link) : updateRatingLink link s =
    ratingEvent .link s.rtk.zone s.slc.ratingLink { s with slc := { s.slc with ratingLink := link } } :=
  if_neg h

/-! ## A carrier offered to the view (R117) -/

section
variable {s : State} {new : Carrier} (hold : Bool)

/-- The carrier offered is the one that the view holds after it. -/
def State.accepts (s : State) (new : Carrier) : Prop :=
  s.slc.view = none ∨ ∃ c, s.slc.view = some c ∧ (c.station = new.station ∨ outranks s.rtk.planLink new c = true)

theorem chosenCarrier_of_accepts (h : s.accepts new) : chosenCarrier s.rtk.planLink s.slc.view new = new := by
  obtain h | ⟨c, h, hc⟩ := h
  · rw [h]; rfl
  · rw [h, chosenCarrier]
    split
    · rfl
    · next hother =>
      rw [if_pos (hc.resolve_left hother)]

theorem offerCarrier_of_named (h : s.slc.view = some new) :
    offerCarrier new hold s = evaluateGate (takeShoreHold hold s) := by
  have hchosen := chosenCarrier_of_accepts (s := s) (new := new) (.inr ⟨new, h, .inl rfl⟩)
  unfold offerCarrier
  dsimp only
  rw [hchosen, if_pos h, if_pos rfl]

/-- The steps of R115 at a change of the view, up to the evaluation of the conditions. -/
def State.renewView (s : State) (new : Carrier) (hold : Bool) : State :=
  evaluateGate (takeShoreHold hold (updateRatingLink new.link { s with slc := { s.slc with view := some new } }))

theorem offerCarrier_of_new (hne : s.slc.view ≠ some new) (h : s.accepts new) :
    offerCarrier new hold s = evaluate (s.renewView new hold) := by
  unfold offerCarrier
  dsimp only
  rw [chosenCarrier_of_accepts h, if_neg hne]
  rfl

theorem offerCarrier_of_kept {c : Carrier} (hview : s.slc.view = some c) (hother : c.station ≠ new.station)
    (hrank : outranks s.rtk.planLink new c = false) : offerCarrier new hold s = s := by
  have hchosen : chosenCarrier s.rtk.planLink s.slc.view new = c := by
    rw [hview, chosenCarrier, if_neg hother, if_neg (by rw [hrank]; nofun)]
  unfold offerCarrier
  dsimp only
  rw [hchosen, if_pos hview, if_neg hother]

theorem renewView_viewPart : (s.renewView new hold).viewPart = (some new, hold, !hold, new.link) := by
  rw [State.renewView, evaluateGate_viewPart, State.gateCondition, takeShoreHold_slc, updateRatingLink_slc]
  rfl

theorem yieldTo_touches (other : Carrier) (s : State) : Touches [.slc, .tch, .dbi] s (yieldTo other s) :=
  .ite _ (enterDraining_touches _) (.refl _ _)

end

/-! ## LINK frames heard (R117 to R121) -/

section
variable {s : State} {new : Carrier} {hold : Bool}

/-- What a carrier that the view takes leaves it with, and the blocks that the view's own steps reach. -/
theorem hearCarrying_of_accepts (h : s.accepts new) :
    ∃ r, (s.slc.view = some new → r = evaluateGate (takeShoreHold hold s)) ∧
      (s.slc.view ≠ some new → r = s.renewView new hold) ∧
      Touches [.slc, .tch, .dbi] r (hearCarrying new hold s) ∧ (hearCarrying new hold s).viewPart = r.viewPart := by
  by_cases hview : s.slc.view = some new
  · refine ⟨_, fun _ => rfl, fun hne => absurd hview hne, ?_, ?_⟩
    · rw [hearCarrying, offerCarrier_of_named hold hview]
      exact yieldTo_touches _ _
    · rw [hearCarrying, yieldTo_viewPart, offerCarrier_of_named hold hview]
  · refine ⟨_, fun heq => absurd heq hview, fun _ => rfl, ?_, ?_⟩
    · rw [hearCarrying, offerCarrier_of_new hold hview h]
      exact (evaluate_touches _).trans (yieldTo_touches _ _)
    · rw [hearCarrying, yieldTo_viewPart, offerCarrier_of_new hold hview h, evaluate_viewPart]

theorem hearCarrying_of_kept {c : Carrier} (hview : s.slc.view = some c) (hother : c.station ≠ new.station)
    (hrank : outranks s.rtk.planLink new c = false) : hearCarrying new hold s = yieldTo new s := by
  rw [hearCarrying, offerCarrier_of_kept hold hview hother hrank]

/-- A view renewed without a LINK event leaves the subscribers and the store, and queues DATA-GATE alone. -/
theorem renewView_of_same_link (h : s.slc.ratingLink = new.link) :
    Touches [.slc, .rch] s (s.renewView new hold) ∧
      (s.rch.queue.length < 16 → (s.renewView new hold).rch.queue = s.rch.queue ++
        (if s.slc.gateOpen = !hold then [] else [.dataGate (!hold)])) := by
  have hsame : s.renewView new hold = evaluateGate (takeShoreHold hold { s with slc := { s.slc with view := some new } }) := by
    rw [State.renewView, updateRatingLink_same (s := { s with slc := { s.slc with view := some new } }) h]
  rw [hsame]
  exact ⟨((Touches.slc s _).comp (takeShoreHold_touches hold _) (cs := [.slc])).comp (evaluateGate_touches _),
    fun hroom => evaluateGate_queue
      (s := takeShoreHold hold { s with slc := { s.slc with view := some new } }) hroom⟩

/-- The state in which a LINK event rates: the view and the rating link are the new carrier's (R31, R115). -/
def State.relinked (s : State) (new : Carrier) : State :=
  { s with slc := { s.slc with view := some new, ratingLink := new.link } }

/-- A view renewed with a LINK event: the rating event, and DATA-GATE after its BARs. -/
theorem renewView_of_event (h : s.slc.ratingLink ≠ new.link) :
    ∃ r, r = ratingEvent .link s.rtk.zone s.slc.ratingLink (s.relinked new) ∧
      Touches [.slc, .rch] r (s.renewView new hold) ∧
      (r.rch.queue.length < 16 → (s.renewView new hold).rch.queue = r.rch.queue ++
        (if s.slc.gateOpen = !hold then [] else [.dataGate (!hold)])) := by
  refine ⟨_, rfl, ?_, fun hroom => ?_⟩
  · rw [State.renewView, updateRatingLink_event (s := { s with slc := { s.slc with view := some new } }) h]
    exact (takeShoreHold_touches hold _).comp (evaluateGate_touches _)
  · have hr := ratingEvent_touches .link s.rtk.zone s.slc.ratingLink (s.relinked new)
    have hgate := evaluateGate_queue (s := takeShoreHold hold (ratingEvent .link s.rtk.zone s.slc.ratingLink (s.relinked new))) hroom
    rw [State.gateCondition, takeShoreHold_slc, show _ = _ from hr .slc (by decide)] at hgate
    rw [State.renewView, updateRatingLink_event (s := { s with slc := { s.slc with view := some new } }) h]
    exact hgate

theorem relinked_rated (horders : OrdersLaw s) : RatedEach .link s.rtk.zone s.slc.ratingLink s.sub.attachOrder
    (s.relinked new) (ratingEvent .link s.rtk.zone s.slc.ratingLink (s.relinked new)) :=
  ratingEvent_rated (s := s.relinked new) .link _ _ (horders.of_sub rfl)

theorem clearView_viewPart (s : State) : (clearView s).viewPart = (none, false, false, s.slc.ratingLink) := by
  rw [clearView, evaluate_viewPart, evaluateGate_viewPart]
  rfl

theorem clearView_queue (hopen : s.slc.gateOpen = true) (hroom : s.rch.queue.length < 16) :
    (clearView s).rch.queue = s.rch.queue ++ [.dataGate false] := by
  have hgate := evaluateGate_queue (s := { s with slc := { s.slc with view := none, shoreHold := false } }) hroom
  have hev := evaluate_touches (evaluateGate { s with slc := { s.slc with view := none, shoreHold := false } })
  rw [clearView, (hev .rch (by decide)).1, hgate]
  simp [State.gateCondition, hopen]

theorem viewNames_iff {p : Nat} : s.viewNames p = true ↔ ∃ c, s.slc.view = some c ∧ c.station = p := by
  unfold State.viewNames
  cases s.slc.view with
  | none => simp
  | some c => simp

end

/-- Settles O30: a carrier taken renews the view, with a LINK event where the rating link changes; DRAIN and DOWN clear it. -/
theorem linkFramesMoveTheView : Obligations.LinkFramesMoveTheView := by
  refine ⟨fun n link hold s => ?_, fun n link hold failed s => ?_⟩
  · intro u new event gate
    set t := hearCarrying new hold u with ht
    refine ⟨t, rfl, fun haccepts => ?_, hearCarrying_touches new hold u, fun c hview hother hrank => ?_⟩
    · have haccepts' : u.accepts new := haccepts
      obtain ⟨r, hnamed, hnew, htouch, hpart⟩ := hearCarrying_of_accepts (hold := hold) haccepts'
      have hview : t.viewPart = (some new, hold, !hold, if u.slc.view = some new then u.slc.ratingLink else link) := by
        rw [ht, hpart]
        split
        · next h => rw [hnamed h, evaluateGate_viewPart]; simp [State.gateCondition, h]
        · next h => rw [hnew h, renewView_viewPart]
      simp only [State.viewPart, Prod.mk.injEq] at hview
      obtain ⟨hv, hs, hg, hl⟩ := hview
      have hsub : t.sub = r.sub := htouch .sub (by decide)
      have hbsd : t.bsd = r.bsd := htouch .bsd (by decide)
      have hrch : t.rch = r.rch := (htouch .rch (by decide)).1
      refine ⟨hv, hs, hg, hl, fun hno => ?_, fun hevent horders => ?_⟩
      · have hquiet : Touches [.slc, .rch] u r ∧ (u.rch.queue.length < 16 → r.rch.queue = u.rch.queue ++ gate) := by
          by_cases h : u.slc.view = some new
          · rw [hnamed h]
            refine ⟨(takeShoreHold_touches hold u).comp (evaluateGate_touches _), fun hroom => ?_⟩
            rw [evaluateGate_queue (s := takeShoreHold hold u) hroom]
            simp [State.gateCondition, h, gate]
          · rw [hnew h]
            exact renewView_of_same_link (not_not.1 fun hne => hno ⟨h, hne⟩)
        obtain ⟨hkept, hqueue⟩ := hquiet
        exact ⟨hsub.trans (hkept .sub (by decide)), hbsd.trans (hkept .bsd (by decide)), fun hroom => by
          rw [hrch, hqueue hroom]⟩
      · obtain ⟨x, hx, hxt, hxq⟩ := renewView_of_event (s := u) (new := new) (hold := hold) hevent.2
        have hrated := hx ▸ relinked_rated (new := new) horders
        rw [← hnew hevent.1] at hxt hxq
        have hxsub : t.sub = x.sub := hsub.trans (hxt .sub (by decide))
        have hslot : ∀ i, t.slot i = x.slot i := State.slot_congr (congrArg Sub.slots hxsub)
        have hstore : t.bsd = x.bsd := hbsd.trans (hxt .bsd (by decide))
        obtain ⟨-, -, -, hopens, -⟩ := id horders
        intro rated w room
        refine ⟨by rw [hxsub]; exact hrated.shape.attach, by rw [hxsub]; exact hrated.shape.closing, fun i hi => ?_,
          fun i old hold' => ?_, fun hroom => ?_⟩
        · rw [hslot]
          exact hrated.others i fun hm => by rw [(hopens i).1 hm] at hi; nomatch hi
        · have hm : i ∈ u.sub.attachOrder := (hopens i).2 (by rw [hold']; rfl)
          obtain ⟨taken, hafter, hyes, hno⟩ := hrated.slots i hm old hold'
          intro e
          refine ⟨fun hc => ?_, fun hc hroom => ⟨?_, ?_⟩, fun hc hfull => ?_⟩
          · rw [hslot, hafter, State.afterOffer_of_no_content (s := u.relinked new)
              (e := (u.relinked new).ratedUnder u.rtk.zone u.slc.ratingLink old) taken hc]; rfl
          · rw [hslot, hafter, hyes hroom, State.afterOffer_of_taken]; rfl
          · rw [hstore]
            exact hrated.stored hm hold' hroom hc
          · rw [hslot, hafter, hno hfull, State.afterOffer_of_mixed (s := u.relinked new)
              (e := (u.relinked new).ratedUnder u.rtk.zone u.slc.ratingLink old) rfl hc]; rfl
        · have hq := hrated.queue (show u.rch.queue.length + _ ≤ 16 by omega)
          have hbars := bars_le hrated
          have hlen := congrArg List.length hq
          rw [List.length_append] at hlen
          have hu : u.rch.queue.length + u.sub.attachOrder.length < 16 := hroom
          rw [hrch, hxq (by change _ = u.rch.queue.length + _ at hlen; omega), hq]
          rfl
    · rw [ht, hearCarrying_of_kept hview hother hrank]
      have hpart := yieldTo_viewPart u new
      simp only [State.viewPart, Prod.mk.injEq] at hpart
      obtain ⟨hv, hs, hg, hl⟩ := hpart
      exact ⟨hv.trans hview, hs, hg, hl, yieldTo_touches new u⟩
  · intro u
    refine ⟨fun hother => ?_, fun c hview hc => ?_⟩
    · have hsame : clearViewOf n u = u := if_neg fun h => by
        obtain ⟨c, hview, hc⟩ := viewNames_iff.1 h
        exact hother c hview hc
      exact ⟨congrArg Host.Outcome.next hsame, congrArg Host.Outcome.next hsame⟩
    · have hcleared : clearViewOf n u = clearView u := if_pos (viewNames_iff.2 ⟨c, hview, hc⟩)
      have hpart := clearView_viewPart u
      simp only [State.viewPart, Prod.mk.injEq] at hpart
      obtain ⟨hv, hs, hg, hl⟩ := hpart
      exact ⟨clearView u, congrArg Host.Outcome.next hcleared, congrArg Host.Outcome.next hcleared, hv, hs, hg, hl,
        clearView_queue, clearView_touches u⟩

end Sys2Proof.Machine
end

section
/-! The phase machine of shore link control: each entry into a phase as one equation, where the queues have room, and the
commands that move the phase (R102 to R111). -/

-- One theorem after another: all at once take more threads than the check's memory holds.
set_option Elab.async false

namespace Sys2Proof.Machine

/-! ## Directives and announcements with room for them (R168, R181) -/

/-- The terminal channel after a directive has joined a queue with room. -/
def sendTerminal (d : TerminalDirective) (c : Chan TerminalDirective) : Chan TerminalDirective :=
  { c with queue := c.queue ++ [d], sending := c.sending || !c.markHold }

theorem sendTerminal_twice (d d' : TerminalDirective) (c : Chan TerminalDirective) :
    sendTerminal d' (sendTerminal d c) =
      { c with queue := c.queue ++ [d, d'], sending := c.sending || !c.markHold } := by
  simp [sendTerminal]

/-- A LINK frame of this station that enters the class-2 queue now. -/
def State.linkFrame (s : State) (a : Announce) : Waiting LinkMsg := ⟨⟨s.ownLink, s.slc.hold, a⟩, 0, s.timebase⟩

/-- Shore link control right after it enters FAILED (R111). -/
def State.failedSlc (s : State) : Slc :=
  { s.slc with
    phase := .failed, activated := false, settleAt := none, drainAt := none, runCount := 0
    retryAt := some (s.timebase + 10000) }

/-- Shore link control in OFF, its timers and its run count gone. -/
def Slc.off (c : Slc) : Slc :=
  { c with phase := .off, settleAt := none, drainAt := none, retryAt := none, runCount := 0 }

section
variable {s : State}

theorem queueTerminal_of_room (d : TerminalDirective) (h : s.tch.queue.length < 4) :
    queueTerminal d s = { s with tch := sendTerminal d s.tch } := by
  simp [queueTerminal, Chan.enqueue, Config.terminalPlaces, Nat.not_le.2 h, sendTerminal, State.terminalGate]

theorem own_of_isTerminal (h : s.isTerminal = true) : s.own ≠ 0 := by
  simp only [State.isTerminal, terminalStraps, Bool.and_eq_true, bne_iff_ne] at h
  exact h.2

theorem announce_of_empty (a : Announce) (hown : s.own ≠ 0) (h : s.dbi.link = none) :
    announce a s = { s with dbi := { s.dbi with link := some (s.linkFrame a) } } := by
  obtain ⟨-, heq⟩ | ⟨w, hw, -⟩ | ⟨w, hw, -⟩ := offerLink_cases ⟨s.ownLink, s.slc.hold, a⟩ (State.listenOnly_of_own hown)
  · exact heq
  · exact nomatch h.symm.trans hw
  · exact nomatch h.symm.trans hw

/-- An announcement with no LINK of the part on the line is the LINK that waits. -/
theorem announce_frame (a : Announce) (hown : s.own ≠ 0) (h : s.dbi.onLine ≠ some .link) :
    ∃ w, (announce a s).dbi.link = some w ∧ w.frame = ⟨s.ownLink, s.slc.hold, a⟩ := by
  obtain ⟨-, heq⟩ | ⟨w, -, -, heq⟩ | ⟨w, -, hline, -⟩ :=
    offerLink_cases ⟨s.ownLink, s.slc.hold, a⟩ (State.listenOnly_of_own hown)
  · exact ⟨_, by rw [announce, heq], rfl⟩
  · exact ⟨_, by rw [announce, heq], rfl⟩
  · exact absurd hline h

/-- Whether the link is wanted rests on the straps, the tables, the plan, the view and the serving state. -/
theorem wanted_congr {s t : State} (hcfg : t.cfg = s.cfg) (htbl : t.tbl = s.tbl) (hrtk : t.rtk = s.rtk)
    (hprc : t.prc = s.prc) (hview : t.slc.view = s.slc.view) : t.wanted = s.wanted := by
  simp only [State.wanted, State.wantedByPlan, State.ownLink, hcfg, htbl, hrtk, hprc, hview]

/-! ## Entries into phases -/

theorem enterFailed_slc : (enterFailed s).slc = s.failedSlc := by
  rw [enterFailed, announce_slc]
  rfl

theorem enterFailed_of_room (hterminal : s.isTerminal = true) (hroom : s.tch.queue.length < 4) (hlink : s.dbi.link = none) :
    enterFailed s = { s with
      slc := s.failedSlc, tch := sendTerminal .deactivate s.tch
      dbi := { s.dbi with link := some (s.linkFrame (.down true)) } } := by
  unfold enterFailed deactivate
  dsimp only
  rw [queueTerminal_of_room .deactivate]
  · exact announce_of_empty (.down true) (own_of_isTerminal hterminal) hlink
  · exact hroom

theorem settled_of_up (h : s.tch.up = true) :
    settled s = { s with slc := { s.slc with settleAt := none, phase := .probing, runCount := 0 } } := if_pos h

theorem settled_of_lost (h : s.tch.up = false) : settled s = enterFailed { s with slc := { s.slc with settleAt := none } } :=
  if_neg (by simp [h])

/-- ACTIVATE at a settle time above 0 (R104, R179). -/
theorem activate_of_settle (hsettle : s.ownLinkRow.settleTime ≠ 0) :
    activate s = { s with
      slc := { s.slc with
        phase := .settling, activated := true, settleAt := some (s.timebase + s.ownLinkRow.settleTime) }
      tch := { (queueTerminal .activate s).tch with silenceFrom := some s.timebase } } := by
  unfold activate
  dsimp only
  rw [if_neg hsettle]
  rfl

theorem activate_of_room (hsettle : s.ownLinkRow.settleTime ≠ 0) (hroom : s.tch.queue.length < 4) :
    activate s = { s with
      slc := { s.slc with
        phase := .settling, activated := true, settleAt := some (s.timebase + s.ownLinkRow.settleTime) }
      tch := { sendTerminal .activate s.tch with silenceFrom := some s.timebase } } := by
  rw [activate_of_settle hsettle, queueTerminal_of_room .activate hroom]

/-- ACTIVATE at a settle time of 0 ends in PROBING or FAILED as the channel stands (R105). -/
theorem activate_of_no_settling (hsettle : s.ownLinkRow.settleTime = 0) :
    (s.tch.up = true → (activate s).slc =
      { s.slc with phase := .probing, activated := true, settleAt := none, runCount := 0 }) ∧
    (s.tch.up = false → (activate s).slc = s.failedSlc) := by
  unfold activate
  extract_lets s1 _ _ s2
  rw [if_pos hsettle]
  have hup : s2.tch.up = s.tch.up := by
    change (queueTerminal .activate s).tch.up = _
    rw [queueTerminal_tch, Chan.enqueue_up]
  refine ⟨fun h => ?_, fun h => ?_⟩
  · rw [settled_of_up (hup.trans h)]
    rfl
  · rw [settled_of_lost (hup.trans h), enterFailed_slc]
    rfl

theorem wanted_off : State.wanted { s with slc := s.slc.off } = s.wanted := wanted_congr rfl rfl rfl rfl rfl

theorem enterOff_of_unwanted (h : s.wanted = false) : enterOff s = { s with slc := s.slc.off } :=
  if_neg fun hw : State.wanted { s with slc := s.slc.off } = true => Bool.false_ne_true (h.symm.trans (wanted_off.symm.trans hw))

theorem enterOff_of_wanted (h : s.wanted = true) : enterOff s = activate { s with slc := s.slc.off } :=
  if_pos (wanted_off.trans h)

theorem deactivate_of_room (hroom : s.tch.queue.length < 4) :
    deactivate s = { s with slc := { s.slc with activated := false }, tch := sendTerminal .deactivate s.tch } := by
  rw [deactivate, queueTerminal_of_room .deactivate hroom]
  rfl

theorem letGo_of_unwanted (h : s.wanted = false) (hroom : s.tch.queue.length < 4) :
    letGo s = { s with slc := { s.slc.off with activated := false }, tch := sendTerminal .deactivate s.tch } := by
  rw [letGo, deactivate_of_room hroom, enterOff_of_unwanted]
  · rfl
  · exact (wanted_congr (s := s) rfl rfl rfl rfl rfl).trans h

theorem enterCarrying_of_room (hterminal : s.isTerminal = true) (hroom : s.tch.queue.length < 4)
    (hlink : s.dbi.link = none) :
    enterCarrying s = { s with
      slc := { s.slc with phase := .carrying, belowFloor := 0 }, tch := sendTerminal .carryOn s.tch
      dbi := { s.dbi with link := some (s.linkFrame .carry) } } := by
  unfold enterCarrying
  dsimp only
  rw [queueTerminal_of_room .carryOn hroom]
  exact announce_of_empty .carry (own_of_isTerminal hterminal) hlink

/-- DRAINING entered: CARRY-OFF, the drain timer, and LINK DRAIN where no LINK of the part is on the line (R110). -/
theorem enterDraining_drains : (enterDraining s).slc.phase = .draining ∧
    (enterDraining s).slc.drainAt = some (s.timebase + 30000) ∧
    (s.tch.queue.length < 4 → (enterDraining s).tch.queue = s.tch.queue ++ [.carryOff]) ∧
    (s.own ≠ 0 → s.dbi.onLine ≠ some .link →
      ∃ w, (enterDraining s).dbi.link = some w ∧ w.frame = ⟨s.ownLink, s.slc.hold, .drain⟩) := by
  refine ⟨by rw [enterDraining, announce_slc], by rw [enterDraining, announce_slc]; rfl, fun hroom => ?_, fun hown hline => ?_⟩
  · rw [enterDraining, announce_tch, queueTerminal_of_room .carryOff hroom]
    rfl
  · exact announce_frame .drain hown hline

/-- The drain's end where the link is not wanted (R110). -/
theorem linkDrained_of_unwanted (hterminal : s.isTerminal = true) (hwanted : s.wanted = false)
    (hroom : s.tch.queue.length < 4) (hlink : s.dbi.link = none) :
    linkDrained s = { s with
      slc := { s.slc.off with activated := false }, tch := sendTerminal .deactivate s.tch
      dbi := { s.dbi with link := some (s.linkFrame (.down false)) } } := by
  rw [linkDrained, deactivate_of_room hroom, announce_of_empty (.down false), enterOff_of_unwanted]
  · rfl
  · exact (wanted_congr (s := s) rfl rfl rfl rfl rfl).trans hwanted
  · exact own_of_isTerminal hterminal
  · exact hlink

/-- The drain's end where the link is still wanted: OFF is left again at once (R104, R110). -/
theorem linkDrained_of_wanted (hterminal : s.isTerminal = true) (hwanted : s.wanted = true)
    (hroom : s.tch.queue.length < 3) (hlink : s.dbi.link = none) (hsettle : s.ownLinkRow.settleTime ≠ 0) :
    linkDrained s = { s with
      slc := { s.slc.off with
        phase := .settling, activated := true, settleAt := some (s.timebase + s.ownLinkRow.settleTime) }
      tch := { sendTerminal .activate (sendTerminal .deactivate s.tch) with silenceFrom := some s.timebase }
      dbi := { s.dbi with link := some (s.linkFrame (.down false)) } } := by
  rw [linkDrained, deactivate_of_room (by omega), announce_of_empty (.down false), enterOff_of_wanted, activate_of_room]
  · rfl
  · exact hsettle
  · change (s.tch.queue ++ [TerminalDirective.deactivate]).length < 4
    rw [List.length_append, List.length_singleton]
    omega
  · exact (wanted_congr (s := s) rfl rfl rfl rfl rfl).trans hwanted
  · exact own_of_isTerminal hterminal
  · exact hlink

end

end Sys2Proof.Machine
end

section
/-! Commands that move the phase of shore link control: an outranked carrier, QUALITY, the evaluation of the conditions, and
the ends of the settle, drain and retry timers (R102 to R112). -/

-- One theorem after another: all at once take more threads than the check's memory holds.
set_option Elab.async false

namespace Sys2Proof.Machine

/-! ## The evaluation of the conditions (R102, R106) -/

section
variable {s : State}

theorem evaluate_of_no_terminal (h : s.isTerminal = false) : evaluate s = s := if_neg (by simp [h])

theorem evaluate_of_carrying (h : s.slc.phase = .carrying) : evaluate s = s := by
  simp [evaluate, h]

theorem evaluateStandby_of_kept (h : s.slc.phase = .standby → s.wanted = true ∧ s.carryCondition = false) :
    evaluateStandby s = s := by
  unfold evaluateStandby
  split
  · next hphase => rw [(h hphase).1, (h hphase).2]; rfl
  · rfl

theorem evaluate_of_let_go (hterminal : s.isTerminal = true)
    (hphase : s.slc.phase = .settling ∨ s.slc.phase = .probing ∨ s.slc.phase = .standby) (hwanted : s.wanted = false) :
    evaluate s = letGo s := by
  rcases hphase with h | h | h
  · simp [evaluate, hterminal, h, hwanted]
  · simp [evaluate, hterminal, h, hwanted]
  · simp [evaluate, evaluateStandby, hterminal, h, hwanted]

/-- The phases and conditions in which the evaluation changes nothing. -/
theorem evaluate_of_kept (h : s.slc.phase = .off ∧ s.wanted = false ∨
      (s.slc.phase = .settling ∨ s.slc.phase = .probing) ∧ s.wanted = true ∨
      s.slc.phase = .standby ∧ s.wanted = true ∧ s.carryCondition = false ∨
      s.slc.phase = .carrying ∨ s.slc.phase = .draining ∨ s.slc.phase = .failed ∨ s.slc.phase = .none) :
    evaluate s = s := by
  unfold evaluate
  split
  · rcases h with ⟨h, hw⟩ | ⟨h | h, hw⟩ | ⟨h, hw⟩ | h | h | h | h
    · simp [h, hw]
    · simp [h, hw]
    · simp [h, hw]
    · rw [h]
      exact evaluateStandby_of_kept fun _ => hw
    all_goals rw [h]
  · rfl

end

/-! ## An outranked carrier (R109, R110) -/

section
variable {s : State} {new : Carrier} {hold : Bool}

theorem renewView_slc : (s.renewView new hold).slc =
    { s.slc with view := some new, ratingLink := new.link, shoreHold := hold, gateOpen := !hold } := by
  rw [State.renewView, evaluateGate_slc, State.gateCondition, takeShoreHold_slc, updateRatingLink_slc]
  rfl

theorem renewView_touches : Touches [.sub, .bsd, .slc, .rch] s (s.renewView new hold) :=
  (((Touches.slc s _).comp (updateRatingLink_touches new.link _) (cs := [.sub, .bsd, .slc, .rch])).comp
    (takeShoreHold_touches hold _) (cs := [.sub, .bsd, .slc, .rch])).comp (evaluateGate_touches _)

/-- A carrier offered to a CARRYING station moves its view alone. -/
theorem offerCarrier_of_carrying (new : Carrier) (hold : Bool) (h : s.slc.phase = .carrying) :
    (offerCarrier new hold s).slc.phase = .carrying ∧ (offerCarrier new hold s).slc.hold = s.slc.hold ∧
      Touches [.sub, .bsd, .slc, .rch] s (offerCarrier new hold s) := by
  unfold offerCarrier
  extract_lets chosen
  split
  · split
    · have hslc := evaluateGate_slc (takeShoreHold hold s)
      exact ⟨by rw [hslc]; exact h, by rw [hslc]; rfl, (takeShoreHold_touches hold s).comp (evaluateGate_touches _)⟩
    · exact ⟨h, rfl, .refl _ _⟩
  · have hslc := renewView_slc (s := s) (new := chosen) (hold := hold)
    have hphase : (s.renewView chosen hold).slc.phase = .carrying := by rw [hslc]; exact h
    change (evaluate (s.renewView chosen hold)).slc.phase = _ ∧ (evaluate (s.renewView chosen hold)).slc.hold = _ ∧
      Touches _ s (evaluate (s.renewView chosen hold))
    rw [evaluate_of_carrying hphase]
    exact ⟨hphase, by rw [hslc], renewView_touches⟩

/-- A CARRYING station that hears another carrier drains where that one ranks higher, and stays CARRYING where it does not. -/
theorem hearCarrying_of_carrying (hphase : s.slc.phase = .carrying) (hother : new.station ≠ s.own) :
    (outranks s.rtk.planLink new ⟨s.own, s.ownLink⟩ = true →
      (hearCarrying new hold s).slc.phase = .draining ∧
      (hearCarrying new hold s).slc.drainAt = some (s.timebase + 30000) ∧
      (s.tch.queue.length < 4 → (hearCarrying new hold s).tch.queue = s.tch.queue ++ [.carryOff]) ∧
      (s.own ≠ 0 → s.dbi.onLine ≠ some .link →
        ∃ w, (hearCarrying new hold s).dbi.link = some w ∧ w.frame = ⟨s.ownLink, s.slc.hold, .drain⟩)) ∧
    (outranks s.rtk.planLink new ⟨s.own, s.ownLink⟩ = false →
      (hearCarrying new hold s).slc.phase = .carrying ∧
      Touches [.sub, .bsd, .slc, .rch] s (hearCarrying new hold s)) := by
  obtain ⟨hstill, hhold, ht⟩ := offerCarrier_of_carrying new hold hphase
  set x := offerCarrier new hold s with hx
  have hcfg : x.cfg = s.cfg := ht .cfg (by decide)
  have hown : x.own = s.own := by rw [State.own, hcfg]; rfl
  have hlink : x.ownLink = s.ownLink := by rw [State.ownLink, hcfg]; rfl
  have hrtk : x.rtk = s.rtk := ht .rtk (by decide)
  have htch : x.tch = s.tch := ht .tch (by decide)
  have hdbi : x.dbi = s.dbi := ht .dbi (by decide)
  have hnow : x.timebase = s.timebase := ht .timebase (by decide)
  refine ⟨fun hrank => ?_, fun hrank => ?_⟩
  · have hyields : hearCarrying new hold s = enterDraining x :=
      if_pos (by simp [← hx, hstill, hown, hlink, hrtk, hrank, hother])
    obtain ⟨h1, h2, h3, h4⟩ := enterDraining_drains (s := x)
    rw [hyields]
    refine ⟨h1, hnow ▸ h2, fun hroom => htch ▸ h3 (htch ▸ hroom), fun h hline => ?_⟩
    obtain ⟨w, hw, hframe⟩ := h4 (hown ▸ h) (hdbi ▸ hline)
    exact ⟨w, hw, by rw [hframe, hlink, hhold]⟩
  · have hstays : hearCarrying new hold s = x :=
      if_neg (by simp [← hx, hown, hlink, hrtk, hrank])
    rw [hstays]
    exact ⟨hstill, ht⟩

/-- Shore link control has no part in the hearing of a frame outside STANDBY. -/
theorem heardFrom_of_not_standby (n : Nat) (m : Option BeaconMsg) (h : s.slc.phase ≠ .standby) :
    Touches [.prc, .rch] s (heardFrom n m s) := by
  unfold heardFrom
  split
  · exact .refl _ _
  · split
    · exact .refl _ _
    · next old hold =>
      unfold changePeer
      extract_lets new s1 s2 s3
      have h2 : s2 = s1 := if_neg nofun
      have h3 : s3 = s1 := by
        simp only [s3, h2]
        split
        · exact if_neg h
        · rfl
      rw [h3]
      exact (setPeer_touches new s).comp (bs := [.prc, .rch]) (.ite _ (coverDecision_touches _ _ _) (.refl _ _))

end

/-- Settles O31: `hearCarrying` at a CARRYING station, for a LINK CARRY and for a BEACON. -/
theorem outrankedCarrierDrains : Obligations.OutrankedCarrierDrains := by
  refine ⟨fun n link hold s => ?_, fun n m s hother hphase hsound hcarrying => ?_⟩
  · intro u hother hphase
    have hnow : u.timebase = s.timebase := hear_touches n s .timebase (by decide)
    obtain ⟨hdrains, hstays⟩ := hearCarrying_of_carrying (new := ⟨n, link⟩) (hold := hold) hphase hother
    refine ⟨fun hrank => ?_, fun hrank => ?_⟩
    · obtain ⟨h1, h2, h3, h4⟩ := hdrains hrank
      exact ⟨_, rfl, h1, hnow ▸ h2, h3, h4, hearCarrying_touches _ _ _⟩
    · obtain ⟨h1, ht⟩ := hstays hrank
      exact ⟨_, rfl, h1, ht .tch (by decide), ht⟩
  · set u := endWindow n (heardFrom n (some m) s) with hu
    have hheard : Touches [.prc, .tbl, .rch] s u :=
      (heardFrom_of_not_standby n (some m) (by rw [hphase]; nofun)).comp (endWindow_touches n _)
    have hexec : exec (.beaconHeard n (some m)) s = .next (hearCarrying ⟨n, m.linkId⟩ m.hold u) := by
      have hbeacon : soundBeacon (some m) = some m := by simp [soundBeacon, hsound]
      have htake : takeBeaconLink n m u = hearCarrying ⟨n, m.linkId⟩ m.hold u := if_pos hcarrying
      rw [← htake]
      change execBeaconHeard n (some m) s = _
      rw [execBeaconHeard, hbeacon]
    have hslc : u.slc = s.slc := hheard .slc (by decide)
    have hcfg : u.cfg = s.cfg := hheard .cfg (by decide)
    have hown : u.own = s.own := by rw [State.own, hcfg]; rfl
    have hlink : u.ownLink = s.ownLink := by rw [State.ownLink, hcfg]; rfl
    have hrtk : u.rtk = s.rtk := hheard .rtk (by decide)
    have htch : u.tch = s.tch := hheard .tch (by decide)
    have hdbi : u.dbi = s.dbi := hheard .dbi (by decide)
    have hnow : u.timebase = s.timebase := hheard .timebase (by decide)
    obtain ⟨hdrains, hstays⟩ := hearCarrying_of_carrying (s := u) (new := ⟨n, m.linkId⟩) (hold := m.hold)
      (by rw [hslc, hphase]) (by rw [hown]; exact hother)
    rw [hown, hlink, hrtk, htch, hdbi, hnow, hslc] at hdrains
    rw [hown, hlink, hrtk] at hstays
    refine ⟨fun hrank => ?_, fun hrank => ?_⟩
    · obtain ⟨h1, h2, h3, h4⟩ := hdrains hrank
      exact ⟨_, hexec, h1, h2, h3, h4, hheard.comp (hearCarrying_touches _ _ _)⟩
    · obtain ⟨h1, ht⟩ := hstays hrank
      exact ⟨_, hexec, h1, hheard.comp ht⟩

end Sys2Proof.Machine
end

section
/-! QUALITY and the settle timer, the conditions of shore link control, and the ends of its drain and retry timers (R102 to
R112). -/

-- One theorem after another: all at once take more threads than the check's memory holds.
set_option Elab.async false

namespace Sys2Proof.Machine

/-! ## QUALITY (R105, R108) -/

section
variable {s : State} {score : Nat}

theorem fromTerminal_of_isTerminal (f : State → State) (h : s.isTerminal = true) : fromTerminal f s = f (terminalGood s) :=
  if_pos h

theorem takeQuality_low (h : s.slc.phase = .probing) (hscore : score < s.ownLinkRow.threshold) :
    takeQuality score s = { s with slc := { s.slc with runCount := 0 } } := by
  simp [takeQuality, h, Nat.not_le.2 hscore]

theorem satInc_run (h : s.slc.runCount < 15) : satInc Config.maxRun s.slc.runCount = s.slc.runCount + 1 := by
  simp only [satInc, satAdd, Config.maxRun]
  omega

theorem takeQuality_run (h : s.slc.phase = .probing) (hscore : s.ownLinkRow.threshold ≤ score)
    (hrun : s.slc.runCount + 1 < s.inStepRun) (hmax : s.slc.runCount < 15) :
    takeQuality score s = { s with slc := { s.slc with runCount := s.slc.runCount + 1 } } := by
  simp [takeQuality, h, hscore, satInc_run hmax, Nat.not_le.2 hrun]

theorem takeQuality_in_step (h : s.slc.phase = .probing) (hscore : s.ownLinkRow.threshold ≤ score)
    (hrun : s.inStepRun ≤ s.slc.runCount + 1) (hmax : s.slc.runCount < 15) : takeQuality score s =
      evaluateStandby { s with slc := { s.slc with runCount := s.slc.runCount + 1, phase := .standby } } := by
  simp [takeQuality, h, hscore, satInc_run hmax, hrun]

theorem takeQuality_sound (h : s.slc.phase = .carrying) (hscore : s.ownLinkRow.floor ≤ score) :
    takeQuality score s = { s with slc := { s.slc with belowFloor := 0 } } := by
  simp [takeQuality, h, Nat.not_lt.2 hscore]

theorem takeQuality_below (h : s.slc.phase = .carrying) (hscore : score < s.ownLinkRow.floor) :
    (s.slc.belowFloor < 4 →
      takeQuality score s = { s with slc := { s.slc with belowFloor := s.slc.belowFloor + 1 } }) ∧
    (4 ≤ s.slc.belowFloor → takeQuality score s =
      enterFailed { s with slc := { s.slc with belowFloor := satInc 5 s.slc.belowFloor } }) := by
  have hcount : (5 ≤ satInc 5 s.slc.belowFloor) ↔ 4 ≤ s.slc.belowFloor := by
    simp only [satInc, satAdd]
    omega
  refine ⟨fun hlow => ?_, fun hhigh => ?_⟩
  · have hinc : satInc 5 s.slc.belowFloor = s.slc.belowFloor + 1 := by
      simp only [satInc, satAdd]
      omega
    simp [takeQuality, h, hscore, Config.degradeCount, hinc]
    omega
  · simp [takeQuality, h, hscore, Config.degradeCount, hcount, hhigh]

theorem takeQuality_elsewhere (hprobing : s.slc.phase ≠ .probing) (hcarrying : s.slc.phase ≠ .carrying) :
    takeQuality score s = s := by
  unfold takeQuality
  split
  · next h => exact absurd h hprobing
  · next h => exact absurd h hcarrying
  · rfl

/-! ## The conditions (R102, R103, R106) -/

theorem wanted_iff : s.wanted = true ↔ s.ownLink ≠ 0 ∧ (s.ownLink = s.rtk.planLink ∨ s.ownLink = s.rtk.nextPlanLink ∨
    (s.ownLink = s.tbl.route.fallback ∧ s.slc.view = none ∧ s.prc.serving ≠ .starting)) := by
  simp only [State.wanted, State.wantedByPlan, Bool.or_eq_true, Bool.and_eq_true, bne_iff_ne, beq_iff_eq,
    Option.isNone_iff_eq_none]
  tauto

theorem standbyOn_iff {link : Nat} {p : Peer} : p.standbyOn link = true ↔ (p.state = .present ∨ p.state = .quiet) ∧
    ∃ b, p.beacon = some b ∧ b.linkId = link ∧ b.phase = .standby := by
  unfold Peer.standbyOn
  cases p.beacon with
  | none => simp
  | some b => simp

theorem knownStandby_iff {link : Nat} : s.knownStandby link = true ↔ (s.slc.phase = .standby ∧ s.ownLink = link) ∨
    ∃ p ∈ s.prc.roster, (p.state = .present ∨ p.state = .quiet) ∧
      ∃ b, p.beacon = some b ∧ b.linkId = link ∧ b.phase = .standby := by
  simp only [State.knownStandby, Bool.or_eq_true, Bool.and_eq_true, beq_iff_eq, List.any_eq_true, standbyOn_iff]

theorem fallbackKnown_eq_false : s.fallbackKnown = false ↔
    s.tbl.route.fallback = 0 ∨ ¬ s.knownStandby s.tbl.route.fallback = true := by
  rw [← Bool.not_eq_true, State.fallbackKnown, Bool.and_eq_true, bne_iff_ne, not_and_or, not_not]

/-- In STANDBY the own link is known, so that it is the lowest known where none below it is. -/
theorem lowestStandby_own (hphase : s.slc.phase = .standby) (hlink : s.ownLink < 8) :
    s.lowestStandby = some s.ownLink ↔ ∀ x, x < s.ownLink → ¬ s.knownStandby x = true := by
  have hown : s.knownStandby s.ownLink = true := knownStandby_iff.2 (.inl ⟨hphase, rfl⟩)
  rw [State.lowestStandby, List.find?_range_eq_some]
  simp [hown, hlink]

theorem viewHolds_eq_false {link : Nat} : s.viewHolds link = false ↔ ∀ c, s.slc.view = some c → c.link ≠ link := by
  unfold State.viewHolds
  cases s.slc.view with
  | none => simp
  | some c => simp

theorem carryCondition_iff (hlink : s.ownLink < 8) : s.carryCondition = true ↔ s.slc.phase = .standby ∧
    ((s.ownLink = s.rtk.planLink ∧ ∀ c, s.slc.view = some c → c.link ≠ s.ownLink) ∨
      (s.slc.view = none ∧ s.prc.serving ≠ .starting ∧ (s.ownLink = s.tbl.route.fallback ∨
        ((s.tbl.route.fallback = 0 ∨ ¬ s.knownStandby s.tbl.route.fallback = true) ∧
          ∀ x, x < s.ownLink → ¬ s.knownStandby x = true)))) := by
  by_cases hphase : s.slc.phase = .standby
  · rw [← viewHolds_eq_false, ← fallbackKnown_eq_false, ← lowestStandby_own hphase hlink]
    simp only [State.carryCondition, hphase, beq_self_eq_true, Bool.true_and, Bool.or_eq_true, Bool.and_eq_true, beq_iff_eq,
      Bool.not_eq_true', Option.isNone_iff_eq_none, bne_iff_ne, and_assoc, true_and]
  · simp [State.carryCondition, hphase]

end

/-- Settles O33: the settle timer and QUALITY by their branches, then the conditions, then the evaluation by phase. -/
theorem qualityMovesThePhase : Obligations.QualityMovesThePhase := by
  refine ⟨fun score s hterminal => ?_, fun s => ?_⟩
  · intro g row
    have hquality : exec (.quality score) s = .next (takeQuality score g) :=
      congrArg Host.Outcome.next (fromTerminal_of_isTerminal (takeQuality score) hterminal)
    rw [hquality]
    refine ⟨fun d hphase hat hdue hup => ?_, fun d hphase hat hdue hlost hroom hlink => ?_, fun hphase => ?_,
      fun hphase => ?_, fun hprobing hcarrying => ?_⟩
    · refine congrArg Host.Outcome.next ((if_pos (by simp [hphase, hat, due, hdue])).trans ?_)
      exact settled_of_up hup
    · refine congrArg Host.Outcome.next ((if_pos (by simp [hphase, hat, due, hdue])).trans ?_)
      rw [settled_of_lost hlost, enterFailed_of_room]
      · rfl
      · exact hterminal
      · exact hroom
      · exact hlink
    · refine ⟨fun hscore => ?_, fun hscore hrun hmax => ?_, fun hscore hrun hmax => ?_⟩
      · exact congrArg Host.Outcome.next (takeQuality_low (s := g) hphase hscore)
      · exact congrArg Host.Outcome.next (takeQuality_run (s := g) hphase hscore hrun hmax)
      · intro v hwanted hcarry
        refine congrArg Host.Outcome.next ((takeQuality_in_step (s := g) hphase hscore hrun hmax).trans ?_)
        exact evaluateStandby_of_kept (s := v) fun _ => ⟨hwanted, hcarry⟩
    · refine ⟨fun hscore => ?_, fun hscore hlow => ?_, fun hscore hhigh => ?_⟩
      · exact congrArg Host.Outcome.next (takeQuality_sound (s := g) hphase hscore)
      · exact congrArg Host.Outcome.next ((takeQuality_below (s := g) hphase hscore).1 hlow)
      · have hfails := (takeQuality_below (s := g) hphase hscore).2 hhigh
        have hslc : (takeQuality score g).slc = _ := (congrArg State.slc hfails).trans enterFailed_slc
        refine ⟨takeQuality score g, rfl, by rw [hslc]; rfl, by rw [hslc]; rfl, by rw [hslc]; rfl, ?_⟩
        exact (terminalGood_touches s).comp (takeQuality_touches score g)
    · exact congrArg Host.Outcome.next (takeQuality_elsewhere (s := g) hprobing hcarrying)
  · intro row queued known
    refine ⟨wanted_iff, fun hlink => ?_, evaluate_of_no_terminal, fun hterminal => ⟨fun hphase hwanted => ?_,
      fun hphase hwanted hroom => ?_, fun hphase hwanted hcarry hroom hlink => ?_, evaluate_of_kept⟩⟩
    · rw [carryCondition_iff hlink]
      simp only [knownStandby_iff]
      rfl
    · have hact : evaluate s = activate s := by simp [evaluate, hterminal, hphase, hwanted]
      rw [hact]
      exact ⟨fun hsettle hroom => activate_of_room hsettle hroom, fun hsettle => (activate_of_no_settling hsettle).1,
        fun hsettle => (activate_of_no_settling hsettle).2⟩
    · exact (evaluate_of_let_go hterminal hphase hwanted).trans (letGo_of_unwanted hwanted hroom)
    · have hcarries : evaluate s = enterCarrying s := by simp [evaluate, evaluateStandby, hterminal, hphase, hwanted, hcarry]
      rw [hcarries]
      exact enterCarrying_of_room hterminal hroom hlink

/-! ## The ends of a drain and of FAILED (R110, R111) -/

/-- Settles O34: both ends of a drain come to `linkDrained`, and the retry timer's to `enterOff`. -/
theorem drainAndRetryTimersEndTheirPhases : Obligations.DrainAndRetryTimersEndTheirPhases := by
  refine ⟨fun s hterminal => ?_, fun d s hterminal hphase hat hdue => ?_⟩
  · have hidle : exec .statusIdle s = .next (takeIdle (terminalGood s)) :=
      congrArg Host.Outcome.next (fromTerminal_of_isTerminal takeIdle hterminal)
    have hwants : (terminalGood s).wanted = s.wanted := wanted_congr rfl rfl rfl rfl rfl
    refine ⟨fun hphase => hidle.trans (congrArg Host.Outcome.next (if_neg hphase)),
      fun hphase hwanted hroom hlink => ?_, fun hphase hwanted hroom hlink hsettle => ?_⟩
    · intro off bus sent
      refine ⟨hidle.trans (congrArg Host.Outcome.next ((if_pos hphase).trans ?_)), fun d hat hdue => ?_⟩
      · exact linkDrained_of_unwanted (s := terminalGood s) hterminal (hwants.trans hwanted) hroom hlink
      · refine congrArg Host.Outcome.next ((if_pos (by simp [hphase, hat, due, hdue])).trans ?_)
        exact linkDrained_of_unwanted hterminal hwanted hroom hlink
    · intro again bus sent
      refine ⟨hidle.trans (congrArg Host.Outcome.next ((if_pos hphase).trans ?_)), fun d hat hdue => ?_⟩
      · refine (linkDrained_of_wanted (s := terminalGood s) hterminal (hwants.trans hwanted) hroom hlink hsettle).trans ?_
        rw [sendTerminal_twice]
        rfl
      · refine congrArg Host.Outcome.next ((if_pos (by simp [hphase, hat, due, hdue])).trans ?_)
        refine (linkDrained_of_wanted hterminal hwanted hroom hlink hsettle).trans ?_
        rw [sendTerminal_twice]
        rfl
  · have hexec : exec .retryTimerExpiry s = .next (enterOff s) :=
      congrArg Host.Outcome.next (if_pos (by simp [hphase, hat, due, hdue]))
    rw [hexec]
    refine ⟨fun hwanted => congrArg Host.Outcome.next (enterOff_of_unwanted hwanted), fun hwanted hsettle => ?_⟩
    have hactive : enterOff s = _ :=
      (enterOff_of_wanted hwanted).trans (activate_of_settle (s := { s with slc := s.slc.off }) hsettle)
    refine ⟨enterOff s, rfl, by rw [hactive], by rw [hactive], by rw [hactive]; rfl, by rw [hactive]; rfl, by rw [hactive],
      fun hroom => ?_, ?_⟩
    · rw [hactive, queueTerminal_of_room (s := { s with slc := s.slc.off }) .activate hroom]
      rfl
    · exact (enterOff_touches s).without .dbi (show _ = _ by rw [hactive])

end Sys2Proof.Machine
end

section
/-! The failures of the terminal and its hold line (R111, R112, R178 to R180, R183). -/

-- One theorem after another: all at once take more threads than the check's memory holds.
set_option Elab.async false

namespace Sys2Proof.Machine

/-! ## Failure (R111, R178, R179) -/

section
variable {s : State}

theorem failActivated_of_active (h : activatedPhase s.slc.phase = true) : failActivated s = enterFailed s := if_pos h

theorem failActivated_of_inactive (h : activatedPhase s.slc.phase = false) : failActivated s = s := if_neg (by simp [h])

theorem loseTerminal_of_up (hterminal : s.isTerminal = true) (hup : s.tch.up = true) :
    loseTerminal s = failActivated { s with tch := { s.tch with up := false } } := if_pos (by simp [hterminal, hup])

theorem loseTerminal_of_lost (hup : s.tch.up = false) : loseTerminal s = s := if_neg (by simp [hup])

theorem exec_terminalBreak (hterminal : s.isTerminal = true) :
    exec (.channelBreak .terminal) s = .next (loseTerminal { s with tch := s.tch.hunt }) :=
  congrArg Host.Outcome.next (if_pos hterminal)

theorem terminalSilent_iff {h : Nat} (hfrom : s.tch.silenceFrom = some h) (hup : s.tch.up = true) :
    s.tch.silent s.timebase = true ↔ 1000 ≤ s.timebase - h := by
  rw [Chan.silent, hup, hfrom, Bool.true_and]
  exact decide_eq_true_iff

end

/-- Settles O35: each failure comes to `failActivated`, which acts in an activated phase alone. -/
theorem terminalFailureEntersFailed : Obligations.TerminalFailureEntersFailed := by
  intro s hterminal failed bus sent broken
  have hdown : exec .statusDown s = .next (failActivated (terminalGood s)) :=
    congrArg Host.Outcome.next (fromTerminal_of_isTerminal failActivated hterminal)
  have hbreak := exec_terminalBreak hterminal
  refine ⟨fun hphase hroom hlink => ⟨?_, fun hup => ⟨?_, fun h hlaw hfrom hlong => ?_⟩⟩, fun hphase => ⟨?_, fun hup => ?_,
    fun hlaw => ?_⟩, fun hup => ⟨?_, ?_⟩⟩
  · rw [hdown, failActivated_of_active (s := terminalGood s) hphase,
      enterFailed_of_room (s := terminalGood s) hterminal hroom hlink]
    rfl
  · rw [hbreak, loseTerminal_of_up (s := { s with tch := s.tch.hunt }) hterminal hup,
      failActivated_of_active (s := { s with tch := { s.tch.hunt with up := false } }) hphase,
      enterFailed_of_room (s := { s with tch := { s.tch.hunt with up := false } }) hterminal hroom hlink]
    rfl
  · obtain ⟨-, hactivated, -⟩ := hlaw
    have hactive : s.slc.activated = true := hactivated.trans hphase
    refine congrArg Host.Outcome.next ((if_pos ?_).trans ?_)
    · rw [hactive, (terminalSilent_iff hfrom hup).2 hlong]; rfl
    · rw [loseTerminal_of_up hterminal hup,
        failActivated_of_active (s := { s with tch := { s.tch with up := false } }) hphase,
        enterFailed_of_room (s := { s with tch := { s.tch with up := false } }) hterminal hroom hlink]
      rfl
  · rw [hdown, failActivated_of_inactive (s := terminalGood s) hphase]
  · rw [hbreak, loseTerminal_of_up (s := { s with tch := s.tch.hunt }) hterminal hup,
      failActivated_of_inactive (s := { s with tch := { s.tch.hunt with up := false } }) hphase]
    rfl
  · obtain ⟨-, hactivated, -⟩ := hlaw
    have hinactive : s.slc.activated = false := hactivated.trans hphase
    exact congrArg Host.Outcome.next (if_neg (by rw [hinactive]; nofun))
  · rw [hbreak, loseTerminal_of_lost (s := { s with tch := s.tch.hunt }) hup]
    rfl
  · refine congrArg Host.Outcome.next (if_neg ?_)
    simp [Chan.silent, hup]

/-! ## The hold line (R112, R113, R183) -/

section
variable {s : State} {asserted : Bool}

theorem exec_terminalHoldLine (hterminal : s.isTerminal = true) : exec (.terminalHoldLineChange asserted) s =
    .next (takeTerminalHold asserted { s with terminalHold := asserted }) :=
  congrArg Host.Outcome.next (if_pos hterminal)

theorem takeTerminalHold_of_idle (hhold : s.slc.hold ≠ asserted) (hphase : s.slc.phase ≠ .carrying) :
    takeTerminalHold asserted s = { s with slc := { s.slc with hold := asserted } } :=
  (if_neg hhold).trans (if_neg hphase)

theorem takeTerminalHold_of_carrying (hhold : s.slc.hold ≠ asserted) (hphase : s.slc.phase = .carrying) :
    takeTerminalHold asserted s =
      offerLink ⟨s.ownLink, asserted, .carry⟩ { s with slc := { s.slc with hold := asserted } } :=
  (if_neg hhold).trans (if_pos hphase)

end

/-- Settles O36: the hold flag follows the line, and `offerLink` places the LINK CARRY of a CARRYING station. -/
theorem terminalHoldLineMovesTheFlag : Obligations.TerminalHoldLineMovesTheFlag := by
  refine fun asserted s => ⟨fun hterminal => ⟨?_, ?_⟩, fun hterminal => ⟨?_, fun hhold => ?_, fun hhold hphase => ?_,
    fun hhold hphase => ?_⟩⟩
  · exact congrArg Host.Outcome.next (if_neg (by simp [hterminal]))
  · exact congrArg Host.Outcome.next (if_neg (by simp [hterminal]))
  · exact congrArg Host.Outcome.next (fromTerminal_of_isTerminal id hterminal)
  · rw [exec_terminalHoldLine hterminal]
    exact congrArg Host.Outcome.next (if_pos hhold)
  · rw [exec_terminalHoldLine hterminal]
    exact congrArg Host.Outcome.next (takeTerminalHold_of_idle (s := { s with terminalHold := asserted }) hhold hphase)
  · intro m changed
    set v : State := { s with terminalHold := asserted, slc := { s.slc with hold := asserted } } with hv
    have hexec : exec (.terminalHoldLineChange asserted) s = .next (offerLink m v) := by
      rw [exec_terminalHoldLine hterminal]
      exact congrArg Host.Outcome.next
        (takeTerminalHold_of_carrying (s := { s with terminalHold := asserted }) hhold hphase)
    have hown : v.listenOnly = false := State.listenOnly_of_own (own_of_isTerminal hterminal)
    rw [hexec]
    refine ⟨fun hnone => ?_, fun w hw hline => ?_, fun w hw hline => ⟨fun hnone => ?_, fun b hb => ?_⟩⟩
    · obtain ⟨-, heq⟩ | ⟨x, hx, -⟩ | ⟨x, hx, -⟩ := offerLink_cases m hown
      · rw [heq]
      · exact nomatch hnone.symm.trans hx
      · exact nomatch hnone.symm.trans hx
    · obtain ⟨hnone, -⟩ | ⟨x, hx, -, heq⟩ | ⟨x, -, hx, -⟩ := offerLink_cases m hown
      · exact nomatch hw.symm.trans hnone
      · obtain rfl : w = x := Option.some.inj (hw.symm.trans hx)
        rw [heq]
      · exact absurd hx hline
    · obtain ⟨hx, -⟩ | ⟨x, -, hx, -⟩ | ⟨x, -, -, ⟨-, heq⟩ | ⟨b, hb, -⟩⟩ := offerLink_cases m hown
      · exact nomatch hw.symm.trans hx
      · exact absurd hline hx
      · rw [heq]
      · exact nomatch hnone.symm.trans hb
    · obtain ⟨hx, -⟩ | ⟨x, -, hx, -⟩ | ⟨x, -, -, ⟨hnone, -⟩ | ⟨y, hy, heq⟩⟩ := offerLink_cases m hown
      · exact nomatch hw.symm.trans hx
      · exact absurd hline hx
      · exact nomatch hb.symm.trans hnone
      · obtain rfl : b = y := Option.some.inj (hb.symm.trans hy)
        rw [heq]

end Sys2Proof.Machine
end

section
/-! The ways into DARK, and the orphan sweep of a DARK station (R136, R139 to R141, R178, R179). -/

-- One theorem after another: all at once take more threads than the check's memory holds.
set_option Elab.async false

namespace Sys2Proof.Machine

/-! ## Entry into DARK (R136, R140) -/

/-- What the radio receiver is in the middle of is no matter of what is queued. -/
theorem radioReceiver_shared (r : Receiver) : KeptByShared fun t => t.rch.receiver = r :=
  radio_shared (fun hr _ h => by rw [hr]; exact h) fun d s h => by rw [queueRadio_rch, Chan.enqueue_receiver]; exact h

section
variable {s : State}

theorem enterDark_queue (hroom : s.rch.queue.length + s.prc.cover.length ≤ 16) :
    (enterDark s).rch.queue = s.rch.queue ++ s.prc.cover.map fun m => .cover m.station false := by
  have hall := (queueAll_room (ds := s.prc.cover.map fun m => .cover m.station false) (s := setServing .dark s)
    (by rw [List.length_map]; exact hroom)).1
  rw [enterDark, emptyCover_eq]
  exact hall

theorem enterDark_rch (s : State) :
    (enterDark s).rch.up = s.rch.up ∧ (enterDark s).rch.receiver = s.rch.receiver :=
  ⟨(radioUp_shared s.rch.up).enterDark rfl, (radioReceiver_shared s.rch.receiver).enterDark rfl⟩

theorem loseRadio_of_lost (h : s.rch.up = false) : loseRadio s = s := if_neg (by simp [h])

theorem loseRadio_of_up (h : s.rch.up = true) : loseRadio s = radioLost { s with rch := { s.rch with up := false } } :=
  if_pos h

theorem radioLost_of_serving (hstate : s.prc.serving = .serving) (hhold : s.prc.deadlineByHold = false) :
    radioLost s = enterDark s := if_pos (by simp [hstate, hhold])

theorem radioLost_of_kept (h : s.prc.serving ≠ .serving ∨ s.prc.deadlineByHold = true) : radioLost s = s :=
  if_neg (by rcases h with h | h <;> simp [h])

theorem radioSilent_iff {h : Nat} (hfrom : s.rch.silenceFrom = some h) (hup : s.rch.up = true) :
    s.rch.silent s.timebase = true ↔ 1000 ≤ s.timebase - h := by
  rw [Chan.silent, hup, hfrom, Bool.true_and]
  exact decide_eq_true_iff

end

/-! ## The orphan sweep (R20, R141) -/

/-- A close at a cause without RELEASE-SUB queues none, whatever room there is. -/
theorem closeSlot_no_release {cause : Cause} (hcause : cause.releasesSub = false) (quiet : Bool) (i k : Nat) (s : State)
    (h : .releaseSub k ∈ (closeSlot cause quiet i s).rch.queue) : .releaseSub k ∈ s.rch.queue := by
  by_cases hopen : (s.slot i).isOpen = true
  · obtain ⟨e, he⟩ := State.exists_of_isOpen hopen
    have hr := (rateSlot_slot true quiet s.rtk.zone s.slc.ratingLink he).1
    have hsent := (finishClose_departure_directive (cause := cause) (quiet := quiet) hr).2
    rw [hcause, Bool.false_and] at hsent
    rw [closeSlot, hsent] at h
    change .releaseSub k ∈ (rateSlot true quiet s.rtk.zone s.slc.ratingLink i s).rch.queue at h
    rw [rateSlot_of_opened true quiet _ _ he] at h
    dsimp only at h
    split at h
    · rw [queueRadio_rch, Chan.enqueue] at h
      split at h
      · exact h
      · simpa using h
    · exact h
  · rwa [closeSlot_not_open cause quiet fun e he => hopen (by rw [he]; rfl)] at h

theorem sweep_no_release {cause : Cause} (hcause : cause.releasesSub = false) (quiet : Bool) (k : Nat) (s : State)
    (h : .releaseSub k ∈ (sweep cause quiet s).rch.queue) : .releaseSub k ∈ s.rch.queue :=
  List.foldlRecOn (motive := fun t : State => .releaseSub k ∈ t.rch.queue → .releaseSub k ∈ s.rch.queue)
    s.sub.attachOrder (fun t i => closeSlot cause quiet i t) id
    (fun t ht i _ hi => ht (closeSlot_no_release hcause quiet i k t hi)) h

/-- Settles O41: the deadline and the loss of the channel come to `enterDark` while SERVING; the orphan timer is a sweep. -/
theorem darkStationsCloseTheirOrphans : Obligations.DarkStationsCloseTheirOrphans := by
  refine ⟨fun s => ?_, fun d s horders hstate hat hdue => ?_⟩
  · intro dark broken silenced
    have hdark : ∀ (u : State), u.prc.cover = s.prc.cover → u.timebase = s.timebase → u.rch.queue = s.rch.queue →
        Touches [.prc, .rch] s u → dark u.prc.healthDeadline (enterDark u) := fun u hcover hnow hqueue ht => by
      have hprc := enterDark_prc u
      refine ⟨by rw [hprc], by rw [hprc], by rw [hprc], by rw [hprc, hnow], ht.trans (enterDark_touches u), fun hroom => ?_⟩
      rw [enterDark_queue (by rw [hcover, hqueue]; exact hroom), hcover, hqueue]
    refine ⟨fun d hat hdue => ⟨fun hstate => ?_, fun hstate => ?_⟩, fun hup => ⟨fun hstate hhold => ?_, fun hkept => ?_,
      fun h hfrom hlong => ⟨fun hstate hhold => ?_, fun hkept => ?_⟩⟩, fun hup => ⟨?_, ?_⟩⟩
    · set u : State := { s with prc := { s.prc with healthDeadline := none } } with hu
      have hpass : deadlinePassed s = enterDark u :=
        (if_pos (by simp [due, hat, hdue])).trans (if_pos hstate)
      exact ⟨enterDark u, congrArg Host.Outcome.next hpass, hdark u rfl rfl rfl (Touches.prc s _).mono,
        (enterDark_rch u).1⟩
    · exact congrArg Host.Outcome.next ((if_pos (by simp [due, hat, hdue])).trans (if_neg hstate))
    · have hlose : loseRadio { s with rch := s.rch.hunt } = enterDark broken :=
        (loseRadio_of_up (s := { s with rch := s.rch.hunt }) hup).trans (radioLost_of_serving (s := broken) hstate hhold)
      exact ⟨enterDark broken, congrArg Host.Outcome.next hlose, hdark broken rfl rfl rfl (Touches.rch s _).mono,
        (enterDark_rch broken).1, (enterDark_rch broken).2⟩
    · have hlose : loseRadio { s with rch := s.rch.hunt } = broken :=
        (loseRadio_of_up (s := { s with rch := s.rch.hunt }) hup).trans
          (radioLost_of_kept (s := broken) (hkept.imp_right And.left))
      exact congrArg Host.Outcome.next hlose
    · have hlose : loseRadio s = enterDark silenced :=
        (loseRadio_of_up hup).trans (radioLost_of_serving (s := silenced) hstate hhold)
      refine ⟨enterDark silenced, congrArg Host.Outcome.next ((if_pos ((radioSilent_iff hfrom hup).2 hlong)).trans hlose),
        hdark silenced rfl rfl rfl (Touches.rch s _).mono, (enterDark_rch silenced).1, (enterDark_rch silenced).2⟩
    · have hlose : loseRadio s = silenced :=
        (loseRadio_of_up hup).trans (radioLost_of_kept (s := silenced) (hkept.imp_right And.left))
      exact congrArg Host.Outcome.next ((if_pos ((radioSilent_iff hfrom hup).2 hlong)).trans hlose)
    · exact congrArg Host.Outcome.next (if_neg (by simp [Chan.silent, hup]))
    · exact congrArg Host.Outcome.next (loseRadio_of_lost (s := { s with rch := s.rch.hunt }) hup)
  · set u : State := { s with prc := { s.prc with orphanAt := none } } with hu
    have hsweep : orphanExpired s = sweep .orphan false u := if_pos (by simp [hstate, due, hat, hdue])
    have ht := sweep_touches .orphan false u
    obtain ⟨hattach, hshut, hclosing⟩ := sweep_orders (s := u) .orphan false (horders.of_sub rfl)
    exact ⟨sweep .orphan false u, congrArg Host.Outcome.next hsweep, ht .prc (by decide), hattach, hshut, hclosing,
      ((drainKept_shared u).sweep .orphan false (.refl u)).store, fun k hk => sweep_no_release rfl false k u hk,
      (Touches.prc s _).comp ht⟩

end Sys2Proof.Machine
end

section
/-! BEACONs heard, and the fall of a silent peer (R117, R118, R130 to R134). -/

-- One theorem after another: all at once take more threads than the check's memory holds.
set_option Elab.async false

namespace Sys2Proof.Machine

/-! ## A roster entry's change and the carrier view (R118, R132) -/

section
variable {s : State}

/-- A change of an entry clears a view that names a station now LOST, and moves no other view. -/
theorem changePeer_viewPart (old new : Peer) (v b : Bool) : (changePeer old new v b s).viewPart =
    if new.state = .lost ∧ s.viewNames new.station = true then (none, false, false, s.slc.ratingLink) else s.viewPart := by
  unfold changePeer
  extract_lets s1 s2 s3
  have h2 : s2.viewPart = if new.state = .lost ∧ s.viewNames new.station = true then
      (none, false, false, s.slc.ratingLink) else s.viewPart := by
    have hnames : s1.viewNames new.station = s.viewNames new.station := rfl
    by_cases hlost : new.state = .lost
    · by_cases hview : s.viewNames new.station = true
      · rw [if_pos ⟨hlost, hview⟩]
        simp only [s2, if_pos hlost, clearViewOf, hnames, if_pos hview, clearView_viewPart]
        rfl
      · rw [if_neg fun h => hview h.2]
        simp only [s2, if_pos hlost, clearViewOf, hnames, if_neg hview]
        rfl
    · rw [if_neg fun h => hlost h.1]
      simp only [s2, if_neg hlost]
      rfl
  have h3 : s3.viewPart = s2.viewPart := by
    simp only [s3]; split
    · exact evaluateStandby_viewPart s2
    · rfl
  rw [← h2, ← h3]
  split
  · simp only [State.viewPart, show (coverDecision new b s3).slc = s3.slc from coverDecision_touches new b s3 .slc (by decide)]
  · rfl

end

/-! ## A BEACON heard (R130, R133, R134) -/

/-- The roster entry of a station whose BEACON is heard now (R130). -/
def Peer.beaconAt (now : Nat) (m : BeaconMsg) (e : Peer) : Peer :=
  { e with state := .present, lastHeard := some now, beacon := some (copyOf m) }

/-- The state in which shore link control takes a BEACON. -/
def State.afterBeacon (s : State) (n : Nat) (m : BeaconMsg) : State := endWindow n (heardFrom n (some m) s)

section
variable {s : State} {n : Nat} {e : Peer} {m : BeaconMsg}

theorem exec_beaconHeard (hsound : m.serving ≠ .starting) :
    exec (.beaconHeard n (some m)) s = .next (takeBeaconLink n m (s.afterBeacon n m)) := by
  have hbeacon : soundBeacon (some m) = some m := by simp [soundBeacon, hsound]
  change execBeaconHeard n (some m) s = _
  rw [execBeaconHeard, hbeacon]
  rfl

theorem heardFrom_of_beacon (hown : n ≠ s.own) (hpeer : s.peer? n = some e) : heardFrom n (some m) s =
    changePeer e (e.beaconAt s.timebase m) true (decide (m.serving = .serving)) s := by
  rw [heardFrom, if_neg hown, hpeer]
  rfl

theorem afterBeacon_touches (s : State) (n : Nat) (m : BeaconMsg) :
    Touches [.prc, .slc, .tch, .dbi, .rch, .tbl] s (s.afterBeacon n m) :=
  (heardFrom_touches n (some m) s).comp (endWindow_touches n _)

theorem afterBeacon_prc (hown : n ≠ s.own) (hpeer : s.peer? n = some e) : (s.afterBeacon n m).prc =
    (changePeer e (e.beaconAt s.timebase m) true (decide (m.serving = .serving)) s).prc := by
  rw [← heardFrom_of_beacon hown hpeer]
  exact endWindow_touches n _ .prc (by decide)

theorem afterBeacon_viewPart (hown : n ≠ s.own) (hpeer : s.peer? n = some e) :
    (s.afterBeacon n m).viewPart = s.viewPart := by
  have hslc : (s.afterBeacon n m).slc = (heardFrom n (some m) s).slc := endWindow_touches n _ .slc (by decide)
  have hheard := congrArg State.viewPart (heardFrom_of_beacon (m := m) hown hpeer)
  rw [State.viewPart, hslc]
  exact hheard.trans ((changePeer_viewPart e _ true _).trans (if_neg fun h => nomatch h.1))

/-- The shore link's own part in a BEACON that shows no carrier: the view loses its sender. -/
theorem takeBeaconLink_of_idle (hphase : m.phase ≠ .carrying) : takeBeaconLink n m s = clearViewOf n s := if_neg hphase

theorem clearViewOf_of_other (h : ∀ c, s.slc.view = some c → c.station ≠ n) : clearViewOf n s = s :=
  if_neg fun hnames => by
    obtain ⟨c, hc, hn⟩ := viewNames_iff.1 hnames
    exact h c hc hn

theorem clearViewOf_view : (clearViewOf n s).slc.view = if s.viewNames n = true then none else s.slc.view := by
  unfold clearViewOf
  split
  · have := clearView_viewPart s
    simp only [State.viewPart, Prod.mk.injEq] at this
    exact this.1
  · rfl

/-- Where no view and no standby evaluation is concerned, a BEACON of a neighbour comes to the cover decision. -/
theorem exec_beaconHeard_decides (hown : n ≠ s.own) (hpeer : s.peer? n = some e) (hphase : m.phase ≠ .carrying)
    (hview : ∀ c, s.slc.view = some c → c.station ≠ n) (hstandby : s.slc.phase ≠ .standby) (hsound : m.serving ≠ .starting) :
    exec (.beaconHeard n (some m)) s = .next (endWindow n
      (coverDecision (e.beaconAt s.timebase m) (decide (m.serving = .serving)) (setPeer (e.beaconAt s.timebase m) s))) := by
  have hpart := afterBeacon_viewPart (m := m) hown hpeer
  simp only [State.viewPart, Prod.mk.injEq] at hpart
  have hheard : heardFrom n (some m) s = coverDecision (e.beaconAt s.timebase m) (decide (m.serving = .serving))
      (setPeer (e.beaconAt s.timebase m) s) := by
    rw [heardFrom_of_beacon hown hpeer]
    unfold changePeer
    extract_lets s1 s2 s3
    have h2 : s2 = s1 := if_neg nofun
    have h3 : s3 = s1 := by
      simp only [s3, h2]; split
      · exact if_neg hstandby
      · rfl
    rw [h3]
    rfl
  rw [exec_beaconHeard hsound, takeBeaconLink_of_idle hphase, clearViewOf_of_other (by rw [hpart.1]; exact hview),
    State.afterBeacon, hheard]

end

theorem takeBeaconLink_prc (n : Nat) (m : BeaconMsg) (s : State) : (takeBeaconLink n m s).prc = s.prc :=
  takeBeaconLink_touches n m s .prc (by decide)

theorem takeBeaconLink_tbl (n : Nat) (m : BeaconMsg) (s : State) : (takeBeaconLink n m s).tbl = s.tbl :=
  takeBeaconLink_touches n m s .tbl (by decide)

/-- Settles O37: the entry by `changePeer_prc`, the view by `takeBeaconLink`, and the cover decision by its branches. -/
theorem beaconsFillTheRosterAndDecideTheCover : Obligations.BeaconsFillTheRosterAndDecideTheCover := by
  refine ⟨fun n m e s hown hsound hpeer => ?_, fun n m e s hown hserving hpeer hneighbour hphase hview hstandby => ?_⟩
  · set u := s.afterBeacon n m with hu
    have hpart : u.viewPart = s.viewPart := afterBeacon_viewPart hown hpeer
    simp only [State.viewPart, Prod.mk.injEq] at hpart
    have hroster : (takeBeaconLink n m u).prc.roster = s.prc.roster.map (fun x =>
        if x.station = (e.beaconAt s.timebase m).station then e.beaconAt s.timebase m else x) := by
      rw [takeBeaconLink_prc, hu, afterBeacon_prc hown hpeer, changePeer_prc]
    have hstation : e.station = n := peer?_station hpeer
    refine ⟨takeBeaconLink n m u, exec_beaconHeard hsound, peer?_setPeer_self hpeer rfl hroster,
      fun p hp => peer?_setPeer_ne (by rw [show (e.beaconAt s.timebase m).station = n from hstation]; exact hp) hroster, ?_,
      fun hphase hnone => ?_, fun c hphase hc => ?_, ?_⟩
    · rw [takeBeaconLink_tbl, hu, State.afterBeacon, endWindow_eq]
      exact congrArg (fun x : Tbl => { x with window := x.window.filter fun w => w.sender != n })
        (show (heardFrom n (some m) s).tbl = s.tbl from heardFrom_touches n (some m) s .tbl (by decide))
    · have haccepts : u.accepts ⟨n, m.linkId⟩ := .inl (hpart.1.trans hnone)
      obtain ⟨r, -, hnew, -, hafter⟩ := hearCarrying_of_accepts (hold := m.hold) haccepts
      rw [hnew (by rw [hpart.1, hnone]; nofun), renewView_viewPart] at hafter
      simp only [State.viewPart, Prod.mk.injEq] at hafter
      have htake : takeBeaconLink n m u = hearCarrying ⟨n, m.linkId⟩ m.hold u := if_pos hphase
      rw [htake]
      exact ⟨hafter.1, hafter.2.1, hafter.2.2.1⟩
    · rw [takeBeaconLink_of_idle hphase, clearViewOf_view, hpart.1, hc]
      refine if_congr ?_ rfl rfl
      rw [viewNames_iff, hpart.1, hc]
      exact ⟨fun ⟨x, hx, hn⟩ => Option.some.inj hx ▸ hn, fun hn => ⟨c, rfl, hn⟩⟩
    · exact (afterBeacon_touches s n m).comp (takeBeaconLink_touches n m u)
  · have hstation : e.station = n := peer?_station hpeer
    set new := e.beaconAt s.timebase m with hnew
    have hnewStation : new.station = n := hstation
    set v := setPeer new s with hv
    have hset : Touches [.prc] s v := setPeer_touches new s
    have hexec : m.serving ≠ .starting → exec (.beaconHeard n (some m)) s =
        .next (endWindow n (coverDecision new (decide (m.serving = .serving)) v)) :=
      exec_beaconHeard_decides hown hpeer hphase hview hstandby
    have hwindow : ∀ x : State, (endWindow n x).prc = x.prc ∧ (endWindow n x).rch = x.rch := fun x =>
      ⟨endWindow_touches n x .prc (by decide), (endWindow_touches n x .rch (by decide)).1⟩
    have hfailed : new.failed = decide (m.serving = .dark) := by simp [hnew, Peer.failed, Peer.beaconAt, copyOf]; rfl
    have hcovers : v.covers n = s.covers n := rfl
    refine ⟨fun hdark hcovered => ?_, fun hcovered => ?_⟩
    · have hadd : coverDecision new (decide (m.serving = .serving)) v = addCover n v := by
        rw [coverDecision, if_neg (by simp [show new.neighbour = true from hneighbour]), hnewStation, if_neg (by
          rw [hcovers, hcovered]; nofun), if_pos (by rw [hfailed, hdark]; simp [hv, setPeer, hserving])]
      refine ⟨_, hexec (by rw [hdark]; nofun), ?_, ?_, fun hroom => ?_⟩
      · rw [(hwindow _).1, hadd, addCover_prc]; rfl
      · rw [hadd]
        exact (hset.comp (addCover_touches n v) (cs := [.prc, .rch])).comp (endWindow_touches n _)
      · rw [(hwindow _).2, hadd]
        exact (queueRadio_room (.cover n true) (s := { v with prc := _ }) hroom).1
    · have hdecide := coverDecision_of_covered (s := v) (e := new) (decide (m.serving = .serving)) hneighbour
        (by rw [hnewStation]; exact hcovered)
      rw [hnewStation, hfailed] at hdecide
      have hlight : ∀ {x : Serving}, m.serving = x → x ≠ .dark → coverDecision new (decide (m.serving = .serving)) v =
          if v.holdRuns n then v else if decide (x = .serving) then setReturnHold n (some (v.timebase + 5000)) v
            else removeCover n v := fun hx hne => by
        rw [hdecide, hx, if_neg (by rw [decide_eq_false hne]; nofun)]
      have hquiet : ∀ x, Touches [.prc] v x → Touches [.prc, .tbl] s (endWindow n x) := fun x hx =>
        (hset.trans hx).comp (endWindow_touches n x)
      refine ⟨fun hdark => ?_, fun hruns hstate => ?_, fun hnone hstate => ?_, fun hnone hstate => ?_⟩
      · have hclear : coverDecision new (decide (m.serving = .serving)) v = setReturnHold n none v := by
          rw [hdecide, hdark]; rfl
        refine ⟨_, hexec (by rw [hdark]; nofun), ?_, ?_⟩
        · rw [hclear]
          exact hquiet _ (Touches.prc v _)
        · rw [(hwindow _).1, hclear]; rfl
      · have hholds : v.holdRuns n = true := by
          obtain ⟨x, hx, hxn, hxh⟩ := hruns
          exact List.any_eq_true.2 ⟨x, hx, by simp [hxn, Option.isSome_iff_ne_none, hxh]⟩
        have hkeeps : coverDecision new (decide (m.serving = .serving)) v = v := by
          rcases hstate with h | h
          · rw [hlight h nofun, if_pos hholds]
          · rw [hlight h nofun, if_pos hholds]
        refine ⟨_, hexec (by rcases hstate with h | h <;> rw [h] <;> nofun), ?_, ?_⟩
        · rw [hkeeps]
          exact hquiet v (.refl _ v)
        · rw [(hwindow _).1, hkeeps]; rfl
      · have hholds : v.holdRuns n = false := holdRuns_eq_false (s := v) hnone
        have hstarts : coverDecision new (decide (m.serving = .serving)) v =
            setReturnHold n (some (v.timebase + 5000)) v := by
          rw [hlight hstate nofun, if_neg (by rw [hholds]; nofun)]
          rfl
        refine ⟨_, hexec (by rw [hstate]; nofun), ?_, ?_⟩
        · rw [hstarts]
          exact hquiet _ (Touches.prc v _)
        · rw [(hwindow _).1, hstarts]; rfl
      · have hholds : v.holdRuns n = false := holdRuns_eq_false (s := v) hnone
        have hleaves : coverDecision new (decide (m.serving = .serving)) v = removeCover n v := by
          rw [hlight hstate nofun, if_neg (by rw [hholds]; nofun)]
          rfl
        refine ⟨_, hexec (by rw [hstate]; nofun), ?_, ?_, fun hroom => ?_⟩
        · rw [(hwindow _).1, hleaves]; rfl
        · rw [hleaves]
          exact (hset.comp (removeCover_touches n v) (cs := [.prc, .rch])).comp (endWindow_touches n _)
        · rw [(hwindow _).2, hleaves]
          exact (queueRadio_room (.cover n false) (s := { v with prc := _ }) hroom).1

/-! ## The fall of a silent peer (R131) -/

section
variable {s : State} {p h : Nat} {e : Peer}

theorem peerQuiet_of_silent (hpeer : s.peer? p = some e) (hstate : e.state = .present) (hheard : e.lastHeard = some h)
    (hlong : 750 ≤ s.timebase - h) : peerQuiet p s = changePeer e { e with state := .quiet } false false s := by
  rw [peerQuiet, hpeer]
  exact if_pos (by simp [hstate, elapsed, hheard, Config.quietAfter, hlong])

theorem peerLost_of_silent (hpeer : s.peer? p = some e) (hstate : e.state = .present ∨ e.state = .quiet)
    (hheard : e.lastHeard = some h) (hlong : 2000 ≤ s.timebase - h) :
    peerLost p s = changePeer e { e with state := .lost } false false s := by
  rw [peerLost, hpeer]
  exact if_pos (by simp [hstate, elapsed, hheard, Config.lostAfter, hlong])

/-- The cover set after a LOST neighbour that it does not hold has been judged (R133). -/
theorem coverAfter_of_lost (now : Nat) (hneighbour : e.neighbour = true) (hstate : e.state = .lost)
    (hserving : s.prc.serving = .serving) (hcovered : s.covers e.station = false) :
    coverAfter e false now s.prc = s.prc.cover ++ [⟨e.station, none⟩] := by
  have hany : s.prc.cover.any (fun m => m.station == e.station) = false := hcovered
  simp [coverAfter, hneighbour, hany, hserving, Peer.failed, hstate]

end

/-- Settles O38: each fall is a change of the entry, whose parts `changePeer_prc` and `changePeer_viewPart` say. -/
theorem silentPeersFall : Obligations.SilentPeersFall := by
  intro p h e s hpeer hheard
  have hstation : e.station = p := peer?_station hpeer
  refine ⟨fun hstate hlong => ?_, fun hstate hlong => ?_⟩
  · set new : Peer := { e with state := .quiet } with hnew
    have hfall := peerQuiet_of_silent hpeer hstate hheard hlong
    have hroster : (changePeer e new false false s).prc.roster =
        s.prc.roster.map (fun x => if x.station = new.station then new else x) := by rw [changePeer_prc]
    have hview := changePeer_viewPart (s := s) e new false false
    rw [if_neg fun hlost => nomatch hlost.1] at hview
    simp only [State.viewPart, Prod.mk.injEq] at hview
    exact ⟨_, congrArg Host.Outcome.next hfall, peer?_setPeer_self hpeer rfl hroster,
      fun q hq => peer?_setPeer_ne (by rw [show new.station = p from hstation]; exact hq) hroster, hview.1,
      changePeer_touches e new false false s⟩
  · set new : Peer := { e with state := .lost } with hnew
    have hfall := peerLost_of_silent hpeer hstate hheard hlong
    have hprc := changePeer_prc s e new false false
    have hroster : (changePeer e new false false s).prc.roster =
        s.prc.roster.map (fun x => if x.station = new.station then new else x) := by rw [hprc]
    have hview : (changePeer e new false false s).slc.view = if s.viewNames p = true then none else s.slc.view := by
      have hpart := congrArg Prod.fst (changePeer_viewPart (s := s) e new false false)
      rw [show new.station = p from hstation] at hpart
      refine hpart.trans ?_
      by_cases hnames : s.viewNames p = true
      · rw [if_pos ⟨rfl, hnames⟩, if_pos hnames]
      · rw [if_neg fun h => hnames h.2, if_neg hnames]
        rfl
    refine ⟨_, congrArg Host.Outcome.next hfall, peer?_setPeer_self hpeer rfl hroster,
      fun q hq => peer?_setPeer_ne (by rw [show new.station = p from hstation]; exact hq) hroster, hview,
      fun hneighbour hserving hcovered => ?_, changePeer_touches e new false false s⟩
    have hchanged : (false || decide (e.state ≠ new.state)) = true := by
      rcases hstate with h | h
      · simp [hnew, h]
      · simp [hnew, h]
    rw [hprc, if_pos hchanged]
    change coverAfter new false s.timebase s.prc = _
    rw [coverAfter_of_lost (e := new) s.timebase hneighbour rfl hserving (by
      rw [show new.station = p from hstation]; exact hcovered), show new.station = p from hstation]

end Sys2Proof.Machine
end

section
/-! The end of the listen period, and the beacon times with their INTERVAL events (R30, R127, R129). -/

-- One theorem after another: all at once take more threads than the check's memory holds.
set_option Elab.async false

namespace Sys2Proof.Machine

/-! ## A BEACON that waits (R129, R171) -/

/-- The class-3 place after a beacon time: the BEACON that waits there, or a new one. -/
def State.beaconPlace (s : State) : Option (Waiting (Option BeaconMsg)) :=
  match s.dbi.beacon with
  | some w => some w
  | none => some ⟨none, 0, s.timebase⟩

theorem offerBeacon_of_own {s : State} (hown : s.own ≠ 0) :
    offerBeacon s = { s with dbi := { s.dbi with beacon := s.beaconPlace } } := by
  unfold offerBeacon State.beaconPlace
  rw [State.listenOnly_of_own hown]
  cases hb : s.dbi.beacon with
  | none => rfl
  | some w =>
    change s = { s with dbi := { s.dbi with beacon := some w } }
    rw [← hb]

/-- A BEACON that waits goes on waiting through all that the shared operations do. -/
theorem beaconWaits_shared : KeptByShared fun t => t.dbi.beacon.isSome = true where
  frame ht h := by rw [show _ = _ from ht .dbi (by decide)]; exact h
  malformed h := h
  queueRadio _ _ h := h
  queueTerminal _ _ h := h
  restartSilence _ _ h := h
  terminalPin _ _ h := h
  announce a s h := by
    unfold Machine.announce offerLink
    split
    · exact h
    · split
      · exact h
      · split
        · exact h
        · exact h
  offerBeacon {s} h := by
    unfold Machine.offerBeacon; split
    · exact h
    · rfl
  rateSlot final quiet zone link i s h := by
    rw [show _ = _ from rateSlot_touches final quiet zone link i s .dbi (by decide)]; exact h
  offerInterval cause i s h := by rw [show _ = _ from offerInterval_touches cause i s .dbi (by decide)]; exact h
  finishClose cause quiet i s h := by
    rw [show _ = _ from finishClose_touches cause quiet i s .dbi (by decide)]; exact h

/-! ## The INTERVAL checks of a beacon time (R30) -/

theorem State.intervalDue_congr {s t : State} {i : Nat} (hnow : t.timebase = s.timebase) (h : t.slot i = s.slot i) :
    t.intervalDue i = s.intervalDue i := by
  simp only [State.intervalDue, h, hnow]

/-- No check acts where no interval is old enough. -/
theorem intervalChecks_of_young {s : State} (h : ∀ i ∈ s.sub.attachOrder, s.intervalDue i = false) : intervalChecks s = s :=
  List.foldlRecOn (motive := fun t => t = s) s.sub.attachOrder (fun t i => intervalCheck i t) rfl fun t ht i hi => by
    rw [ht]
    exact if_neg (by rw [h i hi]; nofun)

/-- The checks of different slots are record-making ratings of those whose interval is old enough. -/
theorem intervalCheck_foldl (l : List Nat) (s : State) (hn : l.Nodup) :
    l.foldl (fun t i => intervalCheck i t) s =
      rateEach .interval s.rtk.zone s.slc.ratingLink (l.filter s.intervalDue) s := by
  induction l generalizing s with
  | nil => rfl
  | cons i l ih =>
    obtain ⟨hil, hnl⟩ := List.nodup_cons.1 hn
    rw [List.foldl_cons]
    cases hdue : s.intervalDue i with
    | false =>
      rw [List.filter_cons_of_neg (by rw [hdue]; nofun), show intervalCheck i s = s from if_neg (by rw [hdue]; nofun)]
      exact ih s hnl
    | true =>
      have hcheck : intervalCheck i s = recordRating .interval s.rtk.zone s.slc.ratingLink i s := if_pos hdue
      obtain ⟨old, hold⟩ : ∃ old, s.slot i = .opened old := by
        unfold State.intervalDue at hdue
        split at hdue
        · next e he => exact ⟨e, he⟩
        · nomatch hdue
      have ht := recordRating_touches .interval s.rtk.zone s.slc.ratingLink i s
      have hsame : l.filter (recordRating .interval s.rtk.zone s.slc.ratingLink i s).intervalDue =
          l.filter s.intervalDue := List.filter_congr fun j hj =>
        State.intervalDue_congr (ht .timebase (by decide)) ((recordRating_keeps hold).1 j fun h => hil (h ▸ hj))
      rw [List.filter_cons_of_pos hdue, hcheck, ih _ hnl, hsame, show _ = _ from ht .rtk (by decide),
        show _ = _ from ht .slc (by decide)]
      rfl

theorem intervalChecks_rated {s : State} (h : OrdersLaw s) :
    RatedEach .interval s.rtk.zone s.slc.ratingLink (s.sub.attachOrder.filter s.intervalDue) s (intervalChecks s) := by
  obtain ⟨-, hn, -, ho, -⟩ := h
  rw [intervalChecks, intervalCheck_foldl _ _ hn]
  exact rateEach_rated _ _ _ _ s (hn.filter _) fun i hi => (ho i).1 (List.mem_filter.1 hi).1

/-! ## The end of the listen period (R127) -/

section
variable {s : State}

theorem leftStarting_of_silent (h : s.rtk.silent = true) :
    leftStarting s = enterDormant { s with prc := { s.prc with listenUntil := none } } := if_pos h

theorem leftStarting_of_loud (h : s.rtk.silent = false) :
    leftStarting s = chooseState (queueRadio .wake { s with prc := { s.prc with listenUntil := none } }) :=
  if_neg (by rw [h]; nofun)

/-- The coverage block that the listen period's end leaves, by the silence status and the health of the radio head. -/
theorem leftStarting_state : (leftStarting s).prc.listenUntil = none ∧
    (s.rtk.silent = true → (leftStarting s).prc.serving = .dormant ∧
      (leftStarting s).prc.dwellUntil = some (s.timebase + 2000)) ∧
    (s.rtk.silent = false → s.prc.healthDeadline = none ∨ s.rch.up = false →
      (leftStarting s).prc.serving = .dark ∧ (leftStarting s).prc.orphanAt = some (s.timebase + 30000)) ∧
    (s.rtk.silent = false → s.prc.healthDeadline ≠ none → s.rch.up = true → (leftStarting s).prc.serving = .serving) := by
  cases hsilent : s.rtk.silent with
  | true =>
    rw [leftStarting_of_silent hsilent, enterDormant_prc]
    exact ⟨rfl, fun _ => ⟨rfl, rfl⟩, nofun, nofun⟩
  | false =>
    rw [leftStarting_of_loud hsilent, chooseState_prc]
    have hsick : State.unhealthy (queueRadio .wake { s with prc := { s.prc with listenUntil := none } }) = s.unhealthy := by
      simp only [State.unhealthy, queueRadio_rch, Chan.enqueue_up]
      rfl
    rw [hsick]
    refine ⟨rfl, nofun, fun _ hbad => ?_, fun _ hdeadline hup => ?_⟩
    · rw [unhealthy_iff.2 hbad]
      exact ⟨rfl, rfl⟩
    · have h : s.unhealthy = false := Bool.eq_false_iff.2 fun h => by simp_all [unhealthy_iff]
      rw [h]
      rfl

/-- The three directives of a station that leaves STARTING awake, in their order. -/
theorem leaveStarting_queue (hloud : s.rtk.silent = false) (hroom : s.rch.queue.length ≤ 13) :
    s.rch.queue ++ [.wake, .identity (s.tbl.zones.getD s.rtk.zone 0), .dataGate s.slc.gateOpen] <+:
      (leaveStarting s).rch.queue := by
  unfold leaveStarting
  extract_lets _ s1 s2 s3 s4 s5
  have h2 : s2 = chooseState (queueRadio .wake s1) := if_neg (by rw [hloud]; nofun)
  have ht : Touches [.prc, .rch] s1 s2 :=
    h2 ▸ (queueRadio_touches .wake s1).comp (chooseState_touches _)
  have hq2 : s2.rch.queue = s.rch.queue ++ [.wake] := by
    rw [h2, (chooseState_touches _ .rch (by decide)).1]
    exact (queueRadio_room .wake (s := s1) (show s.rch.queue.length < 16 by omega)).1
  have hcode : s2.identityCode = s.tbl.zones.getD s.rtk.zone 0 := by
    rw [State.identityCode, show s2.tbl = s.tbl from ht .tbl (by decide), show s2.rtk = s.rtk from ht .rtk (by decide)]
  have hgate : s3.slc.gateOpen = s.slc.gateOpen := congrArg Slc.gateOpen (show s2.slc = s.slc from ht .slc (by decide))
  have hq3 : s3.rch.queue = s2.rch.queue ++ [.identity s2.identityCode] :=
    (queueRadio_room _ (s := s2) (show _ < 16 by rw [hq2]; simp; omega)).1
  have hq4 : s4.rch.queue = s3.rch.queue ++ [.dataGate s3.slc.gateOpen] :=
    (queueRadio_room _ (s := s3) (show _ < 16 by rw [hq3, hq2]; simp; omega)).1
  have hall : s4.rch.queue = s.rch.queue ++ [.wake, .identity (s.tbl.zones.getD s.rtk.zone 0), .dataGate s.slc.gateOpen] := by
    rw [hq4, hq3, hq2, hcode, hgate]
    simp
  have hkept := radioQueue_shared s4.rch.queue
  rw [← hall]
  exact hkept.coverIfServing (hkept.evaluate (hkept.beaconAt (List.prefix_rfl)))

theorem leaveStarting_beacon (hown : s.own ≠ 0) : (leaveStarting s).dbi.beacon.isSome = true := by
  unfold leaveStarting
  extract_lets _ s1 s2 s3 s4 s5
  have h2 : Touches [.sub, .hov, .bsd, .prc, .rch] s1 s2 :=
    .ite _ (enterDormant_touches _) ((queueRadio_touches _ _).comp (chooseState_touches _))
  have hown4 : (scheduleBeacon s4.timebase s4).own ≠ 0 := by
    rw [State.own, show (scheduleBeacon s4.timebase s4).cfg = s.cfg from h2 .cfg (by decide)]
    exact hown
  have h5 : s5.dbi.beacon.isSome = true := by
    refine beaconWaits_shared.intervalChecks ?_
    rw [offerBeacon_of_own hown4]
    change (State.beaconPlace _).isSome = true
    unfold State.beaconPlace
    split
    · rfl
    · rfl
  exact beaconWaits_shared.coverIfServing (beaconWaits_shared.evaluate h5)

end

/-- Settles O39: `leaveStarting` by its parts, and a beacon time by the checks of the open intervals. -/
theorem beaconScheduleStartsAndGoesOn : Obligations.BeaconScheduleStartsAndGoesOn := by
  refine ⟨fun d s hstate hat hdue hown => ?_, fun d s hstate hat hdue hown => ?_⟩
  · have hleaves : exec .listenPeriodEnd s = .next (leaveStarting s) :=
      congrArg Host.Outcome.next (if_pos (by simp [due, hat, hdue, hstate]))
    obtain ⟨c, hprc, -⟩ := leaveStarting_prc s
    obtain ⟨hlisten, hdormant, hdark, hserving⟩ := leftStarting_state (s := s)
    exact ⟨leaveStarting s, hleaves, by rw [hprc]; exact hlisten, by rw [hprc], leaveStarting_beacon hown,
      by rw [hprc]; exact hdormant, by rw [hprc]; exact hdark, by rw [hprc]; exact hserving,
      fun hloud hroom _ => leaveStarting_queue hloud hroom, leaveStarting_touches s⟩
  · intro schedule bus
    set v : State := { s with prc := schedule, dbi := bus } with hv
    have hbus : bus = { s.dbi with beacon := s.beaconPlace } := rfl
    have htime : exec .beaconTime s = .next (intervalChecks v) := by
      have hbeacon : beaconTime s = beaconAt (scheduleBeacon d s) := by
        unfold beaconTime
        rw [hat]
        exact if_pos (by simp [hdue, hstate])
      change Host.Outcome.next (beaconTime s) = _
      rw [hbeacon, beaconAt, offerBeacon_of_own (s := scheduleBeacon d s) hown, hv, hbus]
      rfl
    rw [htime]
    refine ⟨fun hyoung => ?_, fun horders => ?_⟩
    · rw [intervalChecks_of_young (s := v) fun i hi => ?_]
      by_cases hopen : (s.slot i).isOpen = true
      · obtain ⟨e, he⟩ := State.exists_of_isOpen hopen
        rw [State.intervalDue_of_opened (s := v) he, decide_eq_false_iff_not, Nat.not_le]
        exact hyoung i hi e he
      · unfold State.intervalDue
        split
        · next e he => exact absurd (show (s.slot i).isOpen = true by rw [show s.slot i = _ from he]; rfl) hopen
        · rfl
    · have hrated := intervalChecks_rated (s := v) (horders.of_sub rfl)
      obtain ⟨-, -, -, hopens, -⟩ := id horders
      have ht := intervalChecks_touches v
      refine ⟨intervalChecks v, rfl, ht .prc (by decide), ht .dbi (by decide), hrated.shape.attach, hrated.shape.closing,
        fun i hi => hrated.others i fun hm => ?_, fun i old hold => ?_,
        ((Touches.prc s schedule).comp (Touches.dbi _ bus) (cs := [.prc, .dbi])).comp ht⟩
      · rw [(hopens i).1 (List.mem_filter.1 hm).1] at hi
        nomatch hi
      · have hdue' : v.intervalDue i = decide (900000 ≤ s.timebase - old.start) := State.intervalDue_of_opened (s := v) hold
        have hlen : (v.sub.attachOrder.filter v.intervalDue).length ≤ s.sub.attachOrder.length := List.length_filter_le _ _
        intro e
        refine ⟨fun hyoung => ?_, fun hold' => ?_⟩
        · rw [hrated.others i fun hm => ?_]
          · exact hold
          · have := (List.mem_filter.1 hm).2
            rw [hdue', decide_eq_true_eq] at this
            omega
        · have hm : i ∈ v.sub.attachOrder.filter v.intervalDue :=
            List.mem_filter.2 ⟨(hopens i).2 (by rw [hold]; rfl), by rw [hdue', decide_eq_true_eq]; exact hold'⟩
          obtain ⟨taken, hafter, hyes, hno⟩ := hrated.slots i hm old hold
          refine ⟨fun hc => ?_, fun hc hnone hroom => ⟨?_, ?_⟩, fun hc hfull => ?_⟩
          · rw [hafter, State.afterOffer_of_no_content (s := v)
              (e := v.ratedUnder v.rtk.zone v.slc.ratingLink old) taken hc]; rfl
          · rw [hafter, hyes ⟨by change s.bsd.store.length + _ ≤ 48; omega, hnone⟩, State.afterOffer_of_taken]; rfl
          · exact hrated.stored hm hold ⟨by change s.bsd.store.length + _ ≤ 48; omega, hnone⟩ hc
          · rw [hafter, hno hfull, State.afterOffer_of_deferred (s := v)
              (e := v.ratedUnder v.rtk.zone v.slc.ratingLink old) rfl hc]; rfl

end Sys2Proof.Machine
end

section
/-! The part's own frames on the deck bus: offered, lost, sent and received back (R116, R163 to R174). -/

-- One theorem after another: all at once take more threads than the check's memory holds.
set_option Elab.async false

namespace Sys2Proof.Machine

/-! ## Of the transmit queues shore link control moves the LINK alone (R168, R170) -/

/-- Of the deck bus nothing but the LINK frames that wait has changed. -/
def LinkMoves (s t : State) : Prop := ∃ l b, t.dbi = { s.dbi with link := l, linkBeside := b }

theorem LinkMoves.of_dbi {s t : State} (h : t.dbi = s.dbi) : LinkMoves s t := ⟨_, _, h⟩

theorem LinkMoves.trans {s t u : State} (h : LinkMoves s t) (h' : LinkMoves t u) : LinkMoves s u := by
  obtain ⟨l, b, ht⟩ := h
  obtain ⟨l', b', hu⟩ := h'
  exact ⟨l', b', by rw [hu, ht]⟩

theorem LinkMoves.ite {s a b : State} (c : Prop) [Decidable c] (ha : LinkMoves s a) (hb : LinkMoves s b) :
    LinkMoves s (if c then a else b) := by
  split
  · exact ha
  · exact hb

theorem LinkMoves.onLine {s t : State} (h : LinkMoves s t) : t.dbi.onLine = s.dbi.onLine := by
  obtain ⟨l, b, h⟩ := h
  rw [h]

theorem LinkMoves.beacon {s t : State} (h : LinkMoves s t) : t.dbi.beacon = s.dbi.beacon := by
  obtain ⟨l, b, h⟩ := h
  rw [h]

section
variable (s : State)

theorem activate_linkMoves : LinkMoves s (activate s) := activate_dbi s
theorem enterOff_linkMoves : LinkMoves s (enterOff s) :=
  .ite _ ((LinkMoves.of_dbi rfl).trans (activate_linkMoves _)) (.of_dbi rfl)
theorem letGo_linkMoves : LinkMoves s (letGo s) := LinkMoves.trans (t := deactivate s) (.of_dbi rfl) (enterOff_linkMoves _)
theorem enterCarrying_linkMoves : LinkMoves s (enterCarrying s) := announce_dbi .carry _
theorem enterDraining_linkMoves : LinkMoves s (enterDraining s) := announce_dbi .drain _
theorem evaluateStandby_linkMoves : LinkMoves s (evaluateStandby s) :=
  .ite _ (.ite _ (letGo_linkMoves s) (.ite _ (enterCarrying_linkMoves s) (.of_dbi rfl))) (.of_dbi rfl)
theorem evaluate_linkMoves : LinkMoves s (evaluate s) := by
  unfold evaluate
  split
  · split
    · exact .ite _ (activate_linkMoves s) (.of_dbi rfl)
    · exact .ite _ (.of_dbi rfl) (letGo_linkMoves s)
    · exact .ite _ (.of_dbi rfl) (letGo_linkMoves s)
    · exact evaluateStandby_linkMoves s
    all_goals exact .of_dbi rfl
  · exact .of_dbi rfl
theorem clearView_linkMoves : LinkMoves s (clearView s) :=
  LinkMoves.trans (t := evaluateGate { s with slc := { s.slc with view := none, shoreHold := false } })
    (.of_dbi (evaluateGate_touches _ .dbi (by decide))) (evaluate_linkMoves _)
theorem clearViewOf_linkMoves (n : Nat) : LinkMoves s (clearViewOf n s) := .ite _ (clearView_linkMoves s) (.of_dbi rfl)
theorem offerCarrier_linkMoves (new : Carrier) (hold : Bool) : LinkMoves s (offerCarrier new hold s) := by
  unfold offerCarrier
  extract_lets chosen
  refine .ite _ (.ite _ (.of_dbi (evaluateGate_touches (takeShoreHold hold s) .dbi (by decide))) (.of_dbi rfl)) ?_
  exact LinkMoves.trans (t := s.renewView chosen hold) (.of_dbi (renewView_touches .dbi (by decide))) (evaluate_linkMoves _)
theorem hearCarrying_linkMoves (c : Carrier) (hold : Bool) : LinkMoves s (hearCarrying c hold s) :=
  (offerCarrier_linkMoves s c hold).trans (.ite _ (enterDraining_linkMoves _) (.of_dbi rfl))
theorem takeLink_linkMoves (n : Nat) (m : LinkMsg) : LinkMoves s (takeLink n m s) := by
  unfold takeLink
  split
  · exact hearCarrying_linkMoves s _ _
  · exact clearViewOf_linkMoves s n
  · exact clearViewOf_linkMoves s n
theorem takeBeaconLink_linkMoves (n : Nat) (m : BeaconMsg) : LinkMoves s (takeBeaconLink n m s) :=
  .ite _ (hearCarrying_linkMoves s _ _) (clearViewOf_linkMoves s n)

/-- The part's own frame, received back, moves no transmit queue but the LINK's. -/
theorem ownContent_linkMoves (q : TxQueue) (before : Dbi) : LinkMoves s (ownContent q before s) := by
  cases q with
  | link =>
    cases hl : before.link with
    | none => simp only [ownContent, hl]; exact .of_dbi rfl
    | some w => simp only [ownContent, hl]; exact takeLink_linkMoves s _ _
  | beacon =>
    cases hb : before.beacon with
    | none => simp only [ownContent, hb]; exact .of_dbi rfl
    | some w =>
      cases hm : w.frame with
      | none => simp only [ownContent, hb, hm]; exact .of_dbi rfl
      | some m => simp only [ownContent, hb, hm]; exact takeBeaconLink_linkMoves s _ _
  | class1 => exact .of_dbi rfl
  | bill => exact .of_dbi rfl
  | drainEnd => exact .of_dbi rfl
  | report => exact .of_dbi rfl

theorem hear_own_dbi : (hear s.own s).dbi = s.dbi := by
  rw [hear_own]
  exact endWindow_touches s.own s .dbi (by decide)

/-- The self-reception puts nothing on the line and no BEACON into its place. -/
theorem receiveOwn_places (q : TxQueue) (before : Dbi) (own : Option RxCheck) :
    (receiveOwn q before own s).dbi.onLine = s.dbi.onLine ∧ (receiveOwn q before own s).dbi.beacon = s.dbi.beacon := by
  cases own with
  | some c => cases c <;> exact ⟨rfl, rfl⟩
  | none =>
    have h := ownContent_linkMoves (hear s.own s) q before
    exact ⟨h.onLine.trans (congrArg Dbi.onLine (hear_own_dbi s)), h.beacon.trans (congrArg Dbi.beacon (hear_own_dbi s))⟩

end

/-! ## Offering a frame (R168, R171, R174) -/

section
variable {s : State}

theorem startFrame_of_offered {q : TxQueue} (hown : s.own ≠ 0) (hline : s.dbi.onLine = none) (h : s.dbi.offered = some q) :
    startFrame s = { s with dbi := { buildOnStart s q s.dbi with onLine := some q } } := by
  rw [startFrame, State.listenOnly_of_own hown, hline, h]
  rfl

theorem startFrame_of_none (h : s.dbi.offered = none) : startFrame s = s := by
  rw [startFrame, h]
  split <;> rfl

end

/-- Settles O44: the classes in their order, as `Dbi.offered` tries them. -/
theorem frameStartOffersTheLowestClass : Obligations.FrameStartOffersTheLowestClass := by
  intro s d
  refine ⟨rfl, fun hheld => ?_, fun hown hline => ⟨fun hclass1 => ?_, fun hclass1 hlink => ?_,
    fun w hclass1 hlink hbeacon => ?_, fun hclass1 hlink hbeacon => ⟨fun hbill hend => ?_, fun hbill hend => ?_,
      fun hbill hend hreports => ?_, fun hbill hend hreports => ?_⟩⟩⟩
  · refine congrArg Host.Outcome.next (if_pos ?_)
    rcases hheld with h | h
    · simp [State.listenOnly, h]
    · simp [show s.dbi.onLine.isSome = true from h]
  · have hq : s.dbi.offered = some .class1 := if_pos (by simp [show s.dbi.class1 ≠ [] from hclass1])
    exact congrArg Host.Outcome.next (startFrame_of_offered hown hline hq)
  · have hq : s.dbi.offered = some .link := by simp [Dbi.offered, show s.dbi.class1 = [] from hclass1,
      show s.dbi.link.isSome = true from hlink]
    exact congrArg Host.Outcome.next (startFrame_of_offered hown hline hq)
  · have hq : s.dbi.offered = some .beacon := by simp [Dbi.offered, show s.dbi.class1 = [] from hclass1,
      show s.dbi.link = none from hlink, show s.dbi.beacon = some w from hbeacon]
    refine congrArg Host.Outcome.next ((startFrame_of_offered hown hline hq).trans ?_)
    simp only [buildOnStart, show s.dbi.beacon = some w from hbeacon, Option.map_some]
    rfl
  · obtain ⟨b, hb⟩ := Option.isSome_iff_exists.1 hbill
    have hq : s.dbi.offered = some .bill := by simp [Dbi.offered, show s.dbi.class1 = [] from hclass1,
      show s.dbi.link = none from hlink, show s.dbi.beacon = none from hbeacon, show s.dbi.bill = some b from hb,
      show s.dbi.drainEnd = none from hend]
    exact congrArg Host.Outcome.next (startFrame_of_offered hown hline hq)
  · obtain ⟨e, he⟩ := Option.isSome_iff_exists.1 hend
    have hq : s.dbi.offered = some .drainEnd := by simp [Dbi.offered, show s.dbi.class1 = [] from hclass1,
      show s.dbi.link = none from hlink, show s.dbi.beacon = none from hbeacon, show s.dbi.bill = none from hbill,
      show s.dbi.drainEnd = some e from he]
    exact congrArg Host.Outcome.next (startFrame_of_offered hown hline hq)
  · have hq : s.dbi.offered = some .report := by simp [Dbi.offered, show s.dbi.class1 = [] from hclass1,
      show s.dbi.link = none from hlink, show s.dbi.beacon = none from hbeacon, show s.dbi.bill = none from hbill,
      show s.dbi.drainEnd = none from hend, show s.dbi.reports ≠ [] from hreports]
    exact congrArg Host.Outcome.next (startFrame_of_offered hown hline hq)
  · have hq : s.dbi.offered = none := by simp [Dbi.offered, show s.dbi.class1 = [] from hclass1,
      show s.dbi.link = none from hlink, show s.dbi.beacon = none from hbeacon, show s.dbi.bill = none from hbill,
      show s.dbi.drainEnd = none from hend, show s.dbi.reports = [] from hreports]
    exact congrArg Host.Outcome.next (startFrame_of_none hq)

/-! ## A frame lost (R164 to R166, R170) -/

theorem loseFrame_transmitErrors (d : Dbi) : (loseFrame d).transmitErrors = d.transmitErrors := by
  unfold loseFrame
  split <;> rfl

theorem deferLink_eq (beside : Option (Waiting LinkMsg)) (w : Waiting LinkMsg) : deferLink beside w =
    ⟨(beside.map Waiting.frame).getD w.frame, min (w.deferral + 1) 3, w.entered⟩ := by
  cases beside with
  | none => rfl
  | some b => rfl

/-- Settles O45: `loseFrame` by the queue whose frame is on the line. -/
theorem lostFrameIsDeferred : Obligations.LostFrameIsDeferred := by
  intro s d
  have hlost : exec .arbitrationLost s = .next { s with dbi := loseFrame d } := rfl
  refine ⟨fun hline => ⟨?_, ?_⟩, fun hline t ht => ?_, fun w rest hline hq => ?_, fun w hline hq => ?_,
    fun w hline hq => ?_, fun w hline hq => ?_, fun w hline hq => ?_, fun w rest hline hq => ?_⟩
  · have h : loseFrame d = d := by rw [loseFrame, hline]
    rw [hlost, h]
  · have h : loseLine d = d := if_neg (by rw [hline]; nofun)
    change Host.Outcome.next { s with dbi := loseLine d } = _
    rw [h]
  · obtain rfl : { s with dbi := loseFrame d } = t := Host.Outcome.next.inj (hlost.symm.trans ht)
    have h : loseLine d = { loseFrame d with transmitErrors := min (d.transmitErrors + 1) 65535 } := by
      rw [loseLine, if_pos hline, loseFrame_transmitErrors]
      rfl
    change Host.Outcome.next { s with dbi := loseLine d } = _
    rw [h]
  · have h : loseFrame d = { d with onLine := none, class1 := w.defer :: rest } := by
      simp only [loseFrame, hline, hq, deferHead]
    rw [hlost, h]
    rfl
  · have h : loseFrame d = { d with onLine := none, link := some (deferLink d.linkBeside w), linkBeside := none } := by
      simp only [loseFrame, hline, hq, Option.map_some]
    rw [hlost, h, deferLink_eq]
    cases d.linkBeside with
    | none => rfl
    | some b => rfl
  · have h : loseFrame d = { d with onLine := none, beacon := some w.defer } := by
      simp only [loseFrame, hline, hq, Option.map_some]
    rw [hlost, h]
    rfl
  · have h : loseFrame d = { d with onLine := none, bill := some w.defer } := by
      simp only [loseFrame, hline, hq, Option.map_some]
    rw [hlost, h]
    rfl
  · have h : loseFrame d = { d with onLine := none, drainEnd := some w.defer } := by
      simp only [loseFrame, hline, hq, Option.map_some]
    rw [hlost, h]
    rfl
  · have h : loseFrame d = { d with onLine := none, reports := w.defer :: rest } := by
      simp only [loseFrame, hline, hq, deferHead]
    rw [hlost, h]
    rfl

end Sys2Proof.Machine
end

section
/-! A frame of the part sent and received back (R48, R116 to R118, R167, R170). -/

-- One theorem after another: all at once take more threads than the check's memory holds.
set_option Elab.async false

namespace Sys2Proof.Machine

/-! ## A LINK and a BEACON sent (R116, R168, R170) -/

/-- The LINK on the line has left it and its place, which the one beside takes. -/
def State.withoutLink (s : State) : State :=
  { s with dbi := { s.dbi with onLine := none, link := s.dbi.linkBeside, linkBeside := none } }

/-- The BEACON on the line has left it and its place. -/
def State.withoutBeacon (s : State) : State := { s with dbi := { s.dbi with onLine := none, beacon := none } }

theorem State.withoutLink_touches (s : State) : Touches [.dbi] s s.withoutLink := .dbi s _
theorem State.withoutBeacon_touches (s : State) : Touches [.dbi] s s.withoutBeacon := .dbi s _

section
variable {s : State}

theorem hear_own_touches (s : State) : Touches [.tbl] s (hear s.own s) := hear_own s ▸ endWindow_touches s.own s

theorem frameSent_link {w : Waiting LinkMsg} (hline : s.dbi.onLine = some .link) (hw : s.dbi.link = some w) :
    exec (.frameSent none) s = .next (takeLink s.own w.frame (hear s.own s.withoutLink)) := by
  change Host.Outcome.next (frameSent none s) = _
  rw [frameSent, hline]
  simp only [receiveOwn, ownContent, hw]
  change Host.Outcome.next (takeLink (hear s.own s.withoutLink).own w.frame (hear s.own s.withoutLink)) = _
  rw [State.own, show (hear s.own s.withoutLink).cfg = s.cfg from hear_own_touches s.withoutLink .cfg (by decide)]
  rfl

theorem frameSent_beacon {w : Waiting (Option BeaconMsg)} {m : BeaconMsg} (hline : s.dbi.onLine = some .beacon)
    (hw : s.dbi.beacon = some w) (hm : w.frame = some m) :
    exec (.frameSent none) s = .next (takeBeaconLink s.own m (hear s.own s.withoutBeacon)) := by
  change Host.Outcome.next (frameSent none s) = _
  rw [frameSent, hline]
  simp only [receiveOwn, ownContent, hw, hm]
  change Host.Outcome.next (takeBeaconLink (hear s.own s.withoutBeacon).own m (hear s.own s.withoutBeacon)) = _
  rw [State.own, show (hear s.own s.withoutBeacon).cfg = s.cfg from hear_own_touches s.withoutBeacon .cfg (by decide)]
  rfl

theorem frameSent_disturbed {q : TxQueue} (c : RxCheck) (hline : s.dbi.onLine = some q) :
    exec (.frameSent (some c)) s =
      .next { takeSending q { s with dbi := { s.dbi with onLine := none } } with
        dbi := countReceiveError c (takeSending q { s with dbi := { s.dbi with onLine := none } }).dbi } := by
  change Host.Outcome.next (frameSent (some c) s) = _
  rw [frameSent, hline]
  rfl

theorem LinkMsg.eq_of_announce {m : LinkMsg} {a : Announce} (h : m.announce = a) : m = ⟨m.linkId, m.hold, a⟩ := by
  cases m
  cases h
  rfl

end

/-! ## The other frames sent (R48, R167) -/

section
variable {s : State}

theorem class1Sent_onLine (s : State) : (class1Sent s).dbi.onLine = s.dbi.onLine := by
  unfold class1Sent
  split
  · rfl
  · dsimp only
    split
    · rw [forgetClaim_touches _ _ .dbi (by decide)]
    · rfl

theorem takeSending_onLine (q : TxQueue) (s : State) : (takeSending q s).dbi.onLine = s.dbi.onLine := by
  cases q with
  | class1 => exact class1Sent_onLine s
  | link => rfl
  | beacon => rfl
  | report => rfl
  | bill =>
    cases hb : s.dbi.bill with
    | none => simp only [takeSending, hb]
    | some w =>
      obtain ⟨b, e, h⟩ := billSent_dbi (s := { s with dbi := { s.dbi with bill := none } }) w.frame
      simp only [takeSending, hb, h]
  | drainEnd =>
    cases hd : s.dbi.drainEnd with
    | none => simp only [takeSending, hd]
    | some w =>
      obtain ⟨b, e, h⟩ := drainEndSent_dbi (s := { s with dbi := { s.dbi with drainEnd := none } })
      simp only [takeSending, hd, h]

/-- A frame that the blocks ignore from the part itself moves no queue as it comes back. -/
theorem receiveOwn_ignored {q : TxQueue} (hignored : ∀ before s, ownContent q before s = s) (before : Dbi)
    (own : Option RxCheck) (s : State) :
    Touches [.dbi, .tbl] s (receiveOwn q before own s) ∧
      (receiveOwn q before own s).dbi.class1 = s.dbi.class1 ∧ (receiveOwn q before own s).dbi.reports = s.dbi.reports := by
  cases own with
  | some c => exact ⟨(Touches.dbi s _).mono, by cases c <;> rfl, by cases c <;> rfl⟩
  | none =>
    rw [receiveOwn, hignored]
    exact ⟨(hear_own_touches s).mono, congrArg Dbi.class1 (hear_own_dbi s), congrArg Dbi.reports (hear_own_dbi s)⟩

/-- The head of class 1 has left the line and its queue. -/
def State.withoutHead (s : State) (rest : List (Waiting Class1)) : State :=
  { s with dbi := { s.dbi with onLine := none, class1 := rest } }

theorem takeSending_claim {w : Waiting Class1} {rest : List (Waiting Class1)} {key : Nat}
    (hc : s.dbi.class1 = w :: rest) (hw : w.frame = .claim key) :
    takeSending .class1 { s with dbi := { s.dbi with onLine := none } } = forgetClaim key (s.withoutHead rest) := by
  simp only [takeSending, class1Sent, hc, hw]
  rfl

theorem takeSending_release {w : Waiting Class1} {rest : List (Waiting Class1)} {m : ReleaseMsg}
    (hc : s.dbi.class1 = w :: rest) (hw : w.frame = .release m) :
    takeSending .class1 { s with dbi := { s.dbi with onLine := none } } = s.withoutHead rest := by
  simp only [takeSending, class1Sent, hc, hw]
  rfl

theorem forgetClaim_slot_self {key i : Nat} {e : Entry} (h : s.findOpen key = some i) (he : s.slot i = .opened e) :
    (forgetClaim key s).slot i = .opened { e with claimPending := false } := by
  rw [forgetClaim_of_open h he, State.slot_setSlot_self]
  exact s.lt_of_slot i (by simp [he])

theorem forgetClaim_slot_of_ne {key i : Nat} (h : s.findOpen key ≠ some i) : (forgetClaim key s).slot i = s.slot i := by
  cases hf : s.findOpen key with
  | none => rw [forgetClaim_of_none hf]; rfl
  | some j =>
    obtain ⟨-, e, he, -⟩ := State.findOpen_some hf
    rw [forgetClaim_of_open hf he, State.slot_setSlot_ne _ _ _ _ (fun hji : j = i => h (hji ▸ hf))]
    rfl

end

/-- Settles O46: the sending by queue, then the self-reception, which moves no queue but the LINK's. -/
theorem sentFrameLeavesItsPlace : Obligations.SentFrameLeavesItsPlace := by
  intro own s
  refine ⟨fun hline => ?_, fun w rest key hline hc hw => ?_, fun w rest m hline hc hw => ?_, fun hline => ?_, ?_,
    fun hline => ?_, fun hline => ?_⟩
  · change Host.Outcome.next (frameSent own s) = _
    rw [frameSent, hline]
  · have hsent : exec (.frameSent own) s = .next (receiveOwn .class1 s.dbi own (forgetClaim key (s.withoutHead rest))) := by
      change Host.Outcome.next (frameSent own s) = _
      rw [frameSent, hline, ← takeSending_claim hc hw]
    set u := s.withoutHead rest
    have hkept : Touches [.hov, .sub] u (forgetClaim key u) := forgetClaim_touches key u
    obtain ⟨htouch, hqueue, -⟩ := receiveOwn_ignored (q := .class1) (fun _ _ => rfl) s.dbi own (forgetClaim key u)
    have hline' : (receiveOwn .class1 s.dbi own (forgetClaim key u)).dbi.onLine = none := by
      rw [(receiveOwn_places (forgetClaim key u) .class1 s.dbi own).1, hkept .dbi (by decide)]
      rfl
    have hslot (i : Nat) : (receiveOwn .class1 s.dbi own (forgetClaim key u)).slot i = (forgetClaim key u).slot i :=
      State.slot_congr (congrArg Sub.slots (htouch .sub (by decide))) i
    refine ⟨_, hsent, ?_, hline', ?_, fun i e hi he => ?_, fun i hi => ?_, ?_⟩
    · rw [hqueue, hkept .dbi (by decide)]
      rfl
    · rw [show _ = (forgetClaim key u).hov from htouch .hov (by decide), forgetClaim_hov]
      rfl
    · exact (hslot i).trans (forgetClaim_slot_self (s := u) hi he)
    · exact (hslot i).trans (forgetClaim_slot_of_ne (s := u) hi)
    · exact ((Touches.dbi s _).comp hkept (cs := [.sub, .hov, .dbi, .tbl])).comp htouch
  · have hsent : exec (.frameSent own) s = .next (receiveOwn .class1 s.dbi own (s.withoutHead rest)) := by
      change Host.Outcome.next (frameSent own s) = _
      rw [frameSent, hline, ← takeSending_release hc hw]
    obtain ⟨htouch, hqueue, -⟩ := receiveOwn_ignored (q := .class1) (fun _ _ => rfl) s.dbi own (s.withoutHead rest)
    exact ⟨_, hsent, hqueue, (Touches.dbi s _).comp htouch⟩
  · have hsent : exec (.frameSent own) s = .next (receiveOwn .report s.dbi own
        { s with dbi := { s.dbi with onLine := none, reports := s.dbi.reports.drop 1 } }) := by
      change Host.Outcome.next (frameSent own s) = _
      rw [frameSent, hline]
      rfl
    obtain ⟨htouch, -, hqueue⟩ := receiveOwn_ignored (q := .report) (fun _ _ => rfl) s.dbi own
      { s with dbi := { s.dbi with onLine := none, reports := s.dbi.reports.drop 1 } }
    exact ⟨_, hsent, hqueue, (Touches.dbi s _).comp htouch⟩
  · refine ⟨frameSent own s, rfl, ?_, fun hline => ?_⟩
    · unfold frameSent
      split
      · next h => exact h
      · next q _ => exact (receiveOwn_places _ q s.dbi own).1.trans (takeSending_onLine q _)
    · rw [frameSent, hline]
      exact (receiveOwn_places _ .beacon s.dbi own).2
  · intro left
    refine ⟨fun c => frameSent_disturbed c hline, fun w hw => ⟨fun ha => ?_, fun ha => ?_, fun failed ha => ?_⟩⟩ <;>
      (rw [frameSent_link hline hw, LinkMsg.eq_of_announce ha]; rfl)
  · intro left
    refine ⟨fun c => frameSent_disturbed c hline, fun w m hw hm hsound => ?_⟩
    have hheard : heardFrom s.own (some m) s.withoutBeacon = s.withoutBeacon := if_pos rfl
    change _ = execBeaconHeard s.own (some m) s.withoutBeacon
    rw [frameSent_beacon hline hw hm, execBeaconHeard, soundBeacon, Option.filter_some, if_pos (by simpa using hsound)]
    change _ = Host.Outcome.next (takeBeaconLink s.own m (endWindow s.own (heardFrom s.own (some m) s.withoutBeacon)))
    rw [hheard]
    exact congrArg (fun u => Host.Outcome.next (takeBeaconLink s.own m u)) (hear_own s.withoutBeacon)

/-! ## Self-reception and the carrier view (R116 to R118) -/

/-- A station that the view names clears the view as it ends its carrying. -/
theorem clearViewOf_named {s : State} {c : Carrier} (hview : s.slc.view = some c) :
    clearViewOf c.station s = clearView s := if_pos (viewNames_iff.2 ⟨c, hview, rfl⟩)

/-- A view cleared names no carrier and closes the gate. -/
theorem clearView_closes (s : State) : (clearView s).slc.view = none ∧ (clearView s).slc.gateOpen = false := by
  have hpart := clearView_viewPart s
  simp only [State.viewPart, Prod.mk.injEq] at hpart
  obtain ⟨hview, -, hgate, -⟩ := hpart
  exact ⟨hview, hgate⟩

theorem takeLink_of_not_carry {m : LinkMsg} (n : Nat) (s : State) (h : m.announce ≠ .carry) :
    takeLink n m s = clearViewOf n s := by
  unfold takeLink
  cases ha : m.announce with
  | carry => exact absurd ha h
  | drain => rfl
  | down failed => rfl

/-- Settles O47: what a LINK and a BEACON of the part do to the view as they come back. -/
theorem ownLinkFramesReachTheView : Obligations.OwnLinkFramesReachTheView := by
  refine fun s => ⟨fun w hline hw => ⟨fun ha hnone => ?_, fun x ha hview => ?_⟩, fun w m x hline hw hm hphase hview => ?_⟩
  · have hleft := s.withoutLink_touches.comp (hear_own_touches s.withoutLink) (cs := [.dbi, .tbl])
    set u := hear s.own s.withoutLink with hu
    have hviewu : u.slc.view = none := (congrArg Slc.view (hleft .slc (by decide))).trans hnone
    have htake : takeLink s.own w.frame u = hearCarrying ⟨s.own, w.frame.linkId⟩ w.frame.hold u := by
      rw [LinkMsg.eq_of_announce ha]
      rfl
    obtain ⟨r, -, hnew, -, hpart⟩ :=
      hearCarrying_of_accepts (s := u) (new := ⟨s.own, w.frame.linkId⟩) (hold := w.frame.hold) (.inl hviewu)
    rw [hnew (by rw [hviewu]; nofun), renewView_viewPart] at hpart
    simp only [State.viewPart, Prod.mk.injEq] at hpart
    obtain ⟨hv, hs, hg, hl⟩ := hpart
    exact ⟨_, (frameSent_link hline hw).trans (congrArg _ htake), hv, hs, hg, hl,
      hleft.comp (hearCarrying_touches _ _ u)⟩
  · have hleft := s.withoutLink_touches.comp (hear_own_touches s.withoutLink) (cs := [.dbi, .tbl])
    set u := hear s.own s.withoutLink with hu
    have hviewu : u.slc.view = some ⟨s.own, x⟩ := (congrArg Slc.view (hleft .slc (by decide))).trans hview
    have htake : takeLink s.own w.frame u = clearView u :=
      (takeLink_of_not_carry s.own u ha).trans (clearViewOf_named hviewu)
    obtain ⟨hv, hg⟩ := clearView_closes u
    exact ⟨_, (frameSent_link hline hw).trans (congrArg _ htake), hv, hg, hleft.comp (clearView_touches u)⟩
  · have hleft := s.withoutBeacon_touches.comp (hear_own_touches s.withoutBeacon) (cs := [.dbi, .tbl])
    set u := hear s.own s.withoutBeacon with hu
    have hviewu : u.slc.view = some ⟨s.own, x⟩ := (congrArg Slc.view (hleft .slc (by decide))).trans hview
    have htake : takeBeaconLink s.own m u = clearView u := (if_neg hphase).trans (clearViewOf_named hviewu)
    have hplace : (clearView u).dbi.beacon = none :=
      (clearView_linkMoves u).beacon.trans (congrArg Dbi.beacon (hear_own_dbi s.withoutBeacon))
    exact ⟨_, (frameSent_beacon hline hw hm).trans (congrArg _ htake), (clearView_closes u).1, hplace,
      hleft.comp (clearView_touches u)⟩

end Sys2Proof.Machine
end

section
/-! A TABLE-DATA accepted (R153, R156 to R158): the row from its bytes, and the notice of each table. -/

-- One theorem after another: all at once take more threads than the check's memory holds.
set_option Elab.async false

namespace Sys2Proof.Machine

/-! ## Rows from bytes (Table 12.8) -/

section
variable {bs : List Byte} {i : Nat}

theorem getD_of_lt (h : i < bs.length) (x y : Byte) : bs.getD i x = bs.getD i y := by
  simp [List.getD_eq_getElem?_getD, h]

theorem field_one (h : i < bs.length) : field bs i 1 = (bs.getD i 0).toNat := by
  rw [getD_of_lt h (0 : Byte) 0xFF#8]
  simp [field, natOf]

theorem field_two (h : i + 1 < bs.length) :
    field bs i 2 = 256 * (bs.getD i 0).toNat + (bs.getD (i + 1) 0).toNat := by
  rw [getD_of_lt h (0 : Byte) 0xFF#8, getD_of_lt (by omega : i < bs.length) (0 : Byte) 0xFF#8]
  simp [field, natOf, List.range_succ]
  omega

theorem field_three (h : i + 1 + 1 < bs.length) :
    field bs i 3 =
      65536 * (bs.getD i 0).toNat + (256 * (bs.getD (i + 1) 0).toNat + (bs.getD (i + 1 + 1) 0).toNat) := by
  rw [getD_of_lt h (0 : Byte) 0xFF#8, getD_of_lt (by omega : i < bs.length) (0 : Byte) 0xFF#8,
    getD_of_lt (by omega : i + 1 < bs.length) (0 : Byte) 0xFF#8]
  simp [field, natOf, List.range_succ]
  change _ = 65536 * _ + (256 * _ + BitVec.toNat (bs[i + 2]?.getD 255#8))
  omega

theorem bitAt_eq (h : i < bs.length) (place : Nat) : bitAt bs i place = (bs.getD i 0).getLsbD place := by
  rw [bitAt, field_one h]
  exact BitVec.testBit_toNat _

theorem tariffOf_eq (h : bs.length = 7) :
    tariffOf bs = ⟨256 * (bs.getD 0 0).toNat + (bs.getD 1 0).toNat,
      max 1 (min (256 * (bs.getD 2 0).toNat + (bs.getD 3 0).toNat) 1024),
      256 * (bs.getD 4 0).toNat + (bs.getD 5 0).toNat, max 1 (min (bs.getD 6 0).toNat 60)⟩ := by
  rw [tariffOf, field_two (by omega), field_two (by omega), field_two (by omega), field_one (by omega)]
  rfl

theorem partnerOf_eq (h : bs.length = 9) :
    partnerOf bs = ⟨65536 * (bs.getD 0 0).toNat + (256 * (bs.getD 1 0).toNat + (bs.getD 2 0).toNat),
      (bs.getD 3 0).toNat % 4, bs.getD 4 0, ⟨(bs.getD 5 0).getLsbD 0, (bs.getD 5 0).getLsbD 1⟩,
      (bs.getD 5 0).getLsbD 7,
      65536 * (bs.getD 6 0).toNat + (256 * (bs.getD 7 0).toNat + (bs.getD 8 0).toNat)⟩ := by
  rw [partnerOf, field_three (by omega), field_three (by omega), field_one (by omega), field_one (by omega),
    bitAt_eq (by omega), getD_of_lt (by omega : 4 < bs.length) 0xFF#8 (0 : Byte), servicesOf, BitVec.testBit_toNat,
    BitVec.testBit_toNat]

theorem headerOf_eq (h : bs.length = 2) : headerOf bs = ⟨min (bs.getD 0 0).toNat 48, (bs.getD 1 0).toNat % 8⟩ := by
  rw [headerOf, field_one (by omega), field_one (by omega)]
  rfl

theorem legRowOf_eq (h : bs.length = 2) : legRowOf bs = ⟨(bs.getD 0 0).toNat % 8, (bs.getD 1 0).toNat % 8⟩ := by
  rw [legRowOf, field_one (by omega), field_one (by omega)]

theorem linkKindOf_eq (n : Nat) : linkKindOf n = if n = 0 then .terrestrial else if n = 1 then .port else .satellite := by
  match n with
  | 0 => rfl
  | 1 => rfl
  | n + 2 => rfl

theorem linkRowOf_eq (h : bs.length = 6) :
    linkRowOf bs = ⟨if (bs.getD 0 0).toNat = 0 then .terrestrial else if (bs.getD 0 0).toNat = 1 then .port else .satellite,
      max 32 (bs.getD 1 0).toNat, min 63 (bs.getD 2 0).toNat, min 63 (bs.getD 3 0).toNat,
      max 2 (min (bs.getD 4 0).toNat 15), 10 * (bs.getD 5 0).toNat⟩ := by
  rw [linkRowOf, field_one (by omega), field_one (by omega), field_one (by omega), field_one (by omega),
    field_one (by omega), field_one (by omega), linkKindOf_eq]
  rfl

theorem silenceOf_eq (h : bs.length = 3) :
    silenceOf bs = ⟨(bs.getD 0 0).toNat, (bs.getD 1 0).toNat, (bs.getD 2 0).getLsbD 0⟩ := by
  rw [silenceOf, field_one (by omega), field_one (by omega), bitAt_eq (by omega)]

end

/-! ## The row written and its notice (R157, R158) -/

section
variable {s : State}

theorem takeTableData_of_fit {n : Nat} {bs : List Byte} {w : Window} (hwindow : s.tbl.window = some w)
    (hsender : w.sender = n) (hlength : bs.length = w.table.rowLength) :
    takeTableData n bs s = setWindow (some w.advance)
      (notice w.table w.pointer { s with tbl := writeRow w.table w.pointer bs s.tbl }) := by
  rw [takeTableData, hwindow]
  exact if_pos ⟨hsender, hlength⟩

theorem setWindow_sendIdentity {code : Nat} (w : Option Window) (h : s.identityCode = code) :
    setWindow w (sendIdentity s) = queueRadio (.identity code) (setWindow w s) := by
  rw [sendIdentity, h]
  rfl

/-- The ZONE row of the current zone: IDENTITY with its code (R90). -/
theorem notice_zone_current {i code : Nat} (w : Option Window) (hi : i = s.rtk.zone) (hlt : i < s.tbl.zones.length) :
    setWindow w (notice .zone i { s with tbl := { s.tbl with zones := s.tbl.zones.set i code } }) =
      queueRadio (.identity code) { s with tbl := { s.tbl with window := w, zones := s.tbl.zones.set i code } } := by
  have hcode : State.identityCode { s with tbl := { s.tbl with zones := s.tbl.zones.set i code } } = code := by
    simp [State.identityCode, ← hi, hlt, List.getD_eq_getElem?_getD]
  rw [show notice .zone i { s with tbl := { s.tbl with zones := s.tbl.zones.set i code } } = _ from if_pos hi,
    setWindow_sendIdentity w hcode]
  rfl

theorem evaluate_tbl (s : State) : (evaluate s).tbl = s.tbl := evaluate_touches s .tbl (by decide)

/-- A LINK row: shore link control evaluates its conditions (R102, R106). -/
theorem notice_link (w : Option Window) (i : Nat) :
    setWindow w (notice .link i s) = { evaluate s with tbl := { s.tbl with window := w } } := by
  change { evaluate s with tbl := { (evaluate s).tbl with window := w } } = _
  rw [evaluate_tbl]

/-- A SILENCE row: the silence status is evaluated (R93). -/
theorem notice_silence (w : Option Window) (i : Nat) :
    (setWindow w (notice .silence i s)).tbl = { s.tbl with window := w } ∧
      (setWindow w (notice .silence i s)).rtk =
        { s.rtk with silent := (setWindow w (notice .silence i s)).derivedSilent } := by
  have htbl : (evaluateSilence s).tbl = s.tbl := evaluateSilence_touches s .tbl (by decide)
  have hrtk := evaluateSilence_rtk (s := s)
  refine ⟨congrArg (fun tbl : Tbl => { tbl with window := w }) htbl, ?_⟩
  have hsilent : (setWindow w (evaluateSilence s)).derivedSilent = s.derivedSilent := by
    simp only [setWindow, State.derivedSilent, htbl, hrtk]
  change (evaluateSilence s).rtk = { s.rtk with silent := (setWindow w (evaluateSilence s)).derivedSilent }
  rw [hsilent, hrtk]

/-- A ROUTE leg row: a leg evaluation (R88). -/
theorem notice_leg (w : Option Window) (j : Nat) :
    (setWindow w (notice .route (j + 1) s)).tbl = { s.tbl with window := w } ∧
      RouteHeld (setWindow w (notice .route (j + 1) s)) ∧
      (setWindow w (notice .route (j + 1) s)).rtk.leg = s.rtk.leg ∧
      (setWindow w (notice .route (j + 1) s)).rtk.slipCount = s.rtk.slipCount ∧
      (setWindow w (notice .route (j + 1) s)).rtk.slipUntil = s.rtk.slipUntil := by
  have hrtk := legEvaluation_rtk (s := s)
  have htbl : (legEvaluation s).tbl = s.tbl := legEvaluation_touches s .tbl (by decide)
  exact ⟨congrArg (fun tbl : Tbl => { tbl with window := w }) htbl, legEvaluation_routeHeld s,
    by change (legEvaluation s).rtk.leg = _; rw [hrtk], by change (legEvaluation s).rtk.slipCount = _; rw [hrtk],
    by change (legEvaluation s).rtk.slipUntil = _; rw [hrtk]⟩

/-- A leg on the route, or 0 with none, is not clamped at a new header; any other is, and counts as a slip (R92). -/
theorem headerWritten_clamps :
    (s.rtk.leg < s.tbl.route.length ∨ s.rtk.leg = 0 ∧ s.tbl.route.length = 0 → headerWritten s = legEvaluation s) ∧
      (s.tbl.route.length ≤ s.rtk.leg → s.rtk.leg ≠ 0 →
        headerWritten s = legEvaluation (countSlip { s with rtk := { s.rtk with leg := s.tbl.route.length - 1 } })) := by
  unfold headerWritten
  refine ⟨fun hon => ?_, fun hle hleg => ?_⟩
  · rw [if_neg (by omega), if_neg (by omega)]
  · by_cases hlen : s.tbl.route.length = 0
    · rw [if_neg (by omega), if_pos ⟨hlen, hleg⟩, hlen]
    · rw [if_pos ⟨hlen, hle⟩]

/-- The ROUTE header: the leg on the new route, with its slip, and the values of the leg held (R92). -/
theorem notice_header (w : Option Window) :
    let t := setWindow w (notice .route 0 s)
    t.tbl = { s.tbl with window := w } ∧ RouteHeld t ∧
      (s.rtk.leg < s.tbl.route.length ∨ s.rtk.leg = 0 ∧ s.tbl.route.length = 0 →
        t.rtk.leg = s.rtk.leg ∧ t.rtk.slipCount = s.rtk.slipCount ∧ t.rtk.slipUntil = s.rtk.slipUntil) ∧
      (s.tbl.route.length ≤ s.rtk.leg → s.rtk.leg ≠ 0 → t.rtk.leg = s.tbl.route.length - 1 ∧
        t.rtk.slipCount = min (s.rtk.slipCount + 1) 65535 ∧ t.rtk.slipUntil = some (s.timebase + 60000)) := by
  intro t
  obtain ⟨hkeeps, hclamps⟩ := headerWritten_clamps (s := s)
  have htbl : (evaluate (headerWritten s)).tbl = s.tbl := (evaluate_tbl _).trans (headerWritten_touches s .tbl (by decide))
  have hrtk : t.rtk = (headerWritten s).rtk := evaluate_touches (headerWritten s) .rtk (by decide)
  have hheld : RouteHeld (evaluate (headerWritten s)) :=
    (routeLaws_of_blocks (t := evaluate (headerWritten s)) (headerWritten_routeLaws s) hrtk (evaluate_tbl _)).2
  refine ⟨congrArg (fun tbl : Tbl => { tbl with window := w }) htbl, hheld, fun hon => ?_, fun hle hleg => ?_⟩
  · rw [hrtk, hkeeps hon, legEvaluation_rtk]
    exact ⟨rfl, rfl, rfl⟩
  · rw [hrtk, hclamps hle hleg, legEvaluation_rtk]
    exact ⟨rfl, rfl, rfl⟩

/-- The slots that a re-check of a PARTNER row closes. -/
def State.failing (s : State) (row : Nat) : List Nat :=
  s.sub.attachOrder.filter (fun i => s.onPartner row i && s.failsRecheck i)

theorem State.mem_failing {row i : Nat} {e : Entry} (horders : OrdersLaw s) (h : s.slot i = .opened e) :
    i ∈ s.failing row ↔ e.partner = row ∧ (s.partnerRow row).fails s.rtk.zone = true := by
  obtain ⟨-, -, -, hopens, -⟩ := horders
  have hin : i ∈ s.sub.attachOrder := (hopens i).2 (by rw [h]; rfl)
  have hon : s.onPartner row i = (e.partner == row) := by simp [State.onPartner, h]
  rw [State.failing, List.mem_filter, hon, State.failsRecheck_of_opened h, Bool.and_eq_true, beq_iff_eq]
  exact ⟨fun ⟨_, hp, hf⟩ => ⟨hp, hp ▸ hf⟩, fun ⟨hp, hf⟩ => ⟨hin, hp, hp ▸ hf⟩⟩

/-- Each failing slot sends RELEASE-SUB and at most one BAR. -/
theorem State.failing_release {row : Nat} (horders : OrdersLaw s)
    (hroom : s.rch.queue.length + 2 * s.sub.attachOrder.length ≤ 16) :
    ∀ i ∈ s.failing row, ∀ e, s.slot i = .opened e →
      .releaseSub e.key ∈ (closeAll .withdrawn false (s.failing row) s).rch.queue := by
  obtain ⟨-, hn, -, hopens, -⟩ := horders
  have hsub : (s.failing row).Sublist s.sub.attachOrder := List.filter_sublist
  have hlen := hsub.length_le
  have hbars := List.countP_le_length (p := s.mayBar) (l := s.failing row)
  exact (closeAll_release rfl (s.failing row) s (hn.sublist hsub) (fun i hi => (hopens i).1 (hsub.subset hi))
    (by omega)).2

/-- A PARTNER row: the entries on it that fail the re-check are closed WITHDRAWN (R15). -/
theorem notice_partner (w : Option Window) (row : Nat) :
    let t := setWindow w (notice .partner row s)
    t.tbl = { s.tbl with window := w } ∧ Touches [.tbl, .sub, .bsd, .rch] s t ∧
      (OrdersLaw s → ∀ i e, s.slot i = .opened e →
        (i ∈ s.failing row → (t.slot i).isOpen = false ∧ i ∉ t.sub.attachOrder ∧
          (s.rch.queue.length + 2 * s.sub.attachOrder.length ≤ 16 → .releaseSub e.key ∈ t.rch.queue)) ∧
        (i ∉ s.failing row → t.slot i = .opened e ∧ i ∈ t.sub.attachOrder)) := by
  intro t
  have hcloses : t = setWindow w (closeAll .withdrawn false (s.failing row) s) := rfl
  have ht : Touches [.sub, .bsd, .rch] s (closeAll .withdrawn false (s.failing row) s) :=
    (closeAll_touches .withdrawn false (s.failing row) s).without .hov (closeAll_hov rfl _ s)
  refine ⟨congrArg (fun tbl : Tbl => { tbl with window := w }) (ht .tbl (by decide)),
    ht.comp (setWindow_touches w _), fun horders i e he => ?_⟩
  obtain ⟨hclosed, hkept, -⟩ := withdraw_table horders (l := s.failing row) List.filter_sublist
  refine ⟨fun hi => ?_, fun hi => ?_⟩
  · obtain ⟨hshut, hout⟩ := hclosed i hi
    exact ⟨hshut, hout, fun hroom => State.failing_release horders hroom i hi e he⟩
  · obtain ⟨hslot, hin⟩ := hkept i hi
    exact ⟨hslot.trans he, hin (by rw [he]; rfl)⟩

end

/-- Settles O43: the row written, table by table, and its notice. -/
theorem tableDataWritesTheClampedRow : Obligations.TableDataWritesTheClampedRow := by
  intro n bs w s u byte two three window len hwindow hsender hlength
  have htaken := takeTableData_of_fit hwindow hsender hlength
  refine ⟨_, rfl, fun htable => ?_, fun htable => ?_, fun htable => ?_, fun htable hrow => ?_, fun j htable hrow => ?_,
    fun htable => ?_, fun htable => ?_⟩ <;> rw [htaken, htable] <;> rw [htable] at hlength
  · have hbytes : field bs 0 3 = three 0 := field_three (hlength ▸ by decide)
    intro written
    rw [writeRow, hbytes]
    exact ⟨fun hi hlt => notice_zone_current (some w.advance) hi hlt, fun hi => congrArg _ (if_neg hi)⟩
  · rw [writeRow, tariffOf_eq hlength]
    rfl
  · rw [writeRow, partnerOf_eq hlength]
    set v : State := { u with tbl := { u.tbl with partners := _ } } with hv
    obtain ⟨htbl, ht, hentries⟩ := notice_partner (s := v) (some w.advance) w.pointer
    refine ⟨htbl, (Touches.tbl u _).comp ht, fun horders i e he => ?_⟩
    have horders' : OrdersLaw v := horders.of_sub rfl
    intro row fails
    have hfails : i ∈ v.failing w.pointer ↔ fails := by
      have hrow : row = v.partnerRow w.pointer :=
        congrArg (fun rows : List PartnerRow => rows.getD w.pointer .zero) ((congrArg Tbl.partners htbl).trans rfl)
      rw [State.mem_failing horders' he, PartnerRow.fails_iff, ← hrow]
    obtain ⟨hclosed, hkept⟩ := hentries horders' i e he
    exact ⟨fun h => hclosed (hfails.2 h), fun h => hkept (mt hfails.1 h)⟩
  · rw [hrow, writeRow, headerOf_eq hlength]
    exact notice_header (s := { u with tbl := { u.tbl with route := _ } }) (some w.advance)
  · rw [hrow, writeRow, legRowOf_eq hlength]
    exact notice_leg (s := { u with tbl := { u.tbl with legs := _ } }) (some w.advance) j
  · rw [writeRow, linkRowOf_eq hlength]
    exact notice_link (s := { u with tbl := { u.tbl with links := _ } }) (some w.advance) w.pointer
  · rw [writeRow, silenceOf_eq hlength]
    exact notice_silence (s := { u with tbl := { u.tbl with silences := _ } }) (some w.advance) w.pointer

end Sys2Proof.Machine
end

section
/-! The directives of the two channels, queued and sent under their hold lines (R181 to R183, R186). -/

-- One theorem after another: all at once take more threads than the check's memory holds.
set_option Elab.async false

namespace Sys2Proof.Machine

/-! ## An asserted hold line starts nothing (R182) -/

/-- While the hold line is asserted the radio transmitter sends nothing that it did not send before. -/
def NoStart (sent : Bool) (t : State) : Prop := t.radioHold = true → t.rch.sending = true → sent = true

section
variable {sent : Bool} {s t : State}

theorem NoStart.of_sending (h : NoStart sent s) (hhold : t.radioHold = s.radioHold) (hrch : t.rch.sending = s.rch.sending) :
    NoStart sent t := fun hh hs => h (hhold ▸ hh) (hrch ▸ hs)

theorem NoStart.of_idle (h : t.rch.sending = false) : NoStart sent t := fun _ hs => by rw [h] at hs; nomatch hs

theorem NoStart.of_touches {bs : List Block} (h : NoStart sent s) (ht : Touches bs s t) (hr : Block.rch ∉ bs)
    (hp : Block.pins ∉ bs) : NoStart sent t := h.of_sending (ht .pins hp).1 (congrArg Chan.sending (ht .rch hr).1)

/-- The transmitter starts nothing through a gate that the hold line shuts. -/
theorem NoStart.startRadio (h : NoStart sent s) : NoStart sent (startRadio s) := fun hhold hs => by
  refine h hhold ?_
  have hgate : s.radioGate = false := by simp [State.radioGate, show s.radioHold = true from hhold]
  simpa [Chan.start, hgate] using hs

theorem NoStart.queueRadio (d : RadioDirective) (h : NoStart sent s) : NoStart sent (queueRadio d s) := fun hhold hs => by
  refine h hhold ?_
  have hgate : s.radioGate = false := by simp [State.radioGate, show s.radioHold = true from hhold]
  rw [queueRadio_rch, Chan.enqueue, hgate] at hs
  split at hs
  · exact hs
  · simpa using hs

end

theorem noStart_shared (sent : Bool) : KeptByShared (NoStart sent) :=
  radio_shared (fun hr hp h => h.of_sending hp (congrArg Chan.sending hr)) fun d _ h => h.queueRadio d

theorem noStart_voyageStart {sent : Bool} {s : State} (h : NoStart sent s) : NoStart sent (voyageStart s) := by
  unfold voyageStart
  extract_lets s1 _ s2 _ s3 s4
  have h1 : NoStart sent s1 := (noStart_shared sent).ratingEvent _ _ _ h
  refine List.foldlRecOn (motive := NoStart sent) s3.sub.attachOrder _ h1 fun u hu i _ => ?_
  unfold unbar; split
  · split
    · exact hu.queueRadio (s := u.setSlot i _) _
    · exact hu
  · exact hu

theorem noStart_attach {sent : Bool} {s : State} (k home : Nat) (v : Services) (h : NoStart sent s) :
    NoStart sent (attach k home v s) :=
  (noStart_shared sent).attach k home v h fun i partner grant u hu _ _ => by
    rw [admitInto_eq]
    refine NoStart.of_touches ?_ (queueClaim_touches k _) (by decide) (by decide)
    exact NoStart.queueRadio _ (hu.of_touches (placeEntry_touches i k partner grant u) (by decide) (by decide))

theorem noStart_directiveSent {sent : Bool} {s : State} (ch : Channel) (h : NoStart sent s) :
    NoStart sent (directiveSent ch s) := by
  cases ch with
  | terminal => exact h
  | radio =>
    change NoStart sent (radioSent s)
    unfold radioSent
    split
    · next hsending => exact fun hhold _ => h hhold hsending
    · exact h

theorem noStart_messageError {sent : Bool} {s : State} (ch : Channel) (e : MessageError) (h : NoStart sent s) :
    NoStart sent (messageError ch e s) := by
  have hsame : (s.rch.messageError s.timebase e).sending = s.rch.sending := by
    unfold Chan.messageError
    dsimp only
    split <;> rfl
  unfold messageError
  split
  · exact h
  · split
    · exact h.of_sending rfl hsame
    · split
      · exact h
      · exact h

theorem noStart_rest (sent : Bool) : KeptByRest [.pins, .rch] (fun s => s.radioHold = true) (NoStart sent) where
  frame hsame h := h.of_sending (hsame .pins (by decide)).1 (congrArg Chan.sending (hsame .rch (by decide)).1)
  powerOn p s _ _ := NoStart.queueRadio .dormant
    (s := { s with radioHold := p.radioHold, rch := .reset }) (.of_idle rfl)
  restartCold _ _ _ _ := (noStart_shared sent).restartPrc ((noStart_shared sent).restartSlc (.of_idle rfl))
  restartWarm b _ _ _ := (noStart_shared sent).restartPrc ((noStart_shared sent).restartSlc
    ((noStart_shared sent).warmBlocks b (.of_idle rfl) (fun _ hu => hu) (fun _ hu => hu)
      fun u hu => hu.of_touches (restartBsdWarm_touches u) (by decide) (by decide)))
  voyageStart _ _ h := noStart_voyageStart h
  takeClaim := .inr fun n k _ _ h => (noStart_shared sent).takeClaim n k h
    (fun m u hu => hu.of_touches (offerRelease_touches m u) (by decide) (by decide)) fun _ _ hu => hu
  takeRelease := .inr fun m s _ h => takeRelease_keeps m h (fun i => by
    unfold mergeInto; split
    · dsimp only
      split
      · exact h.queueRadio (s := s.setSlot i _) _
      · exact h
    · exact h) h
  attach := .inr fun k home v _ _ h => noStart_attach k home v h
  radioGood := .inr fun _ _ h => h
  radioDown := .inr fun _ _ h => h
  huntRadio := .inr fun _ _ h => h
  terminalGood := .inr fun _ _ h => h
  terminalDown := .inr fun _ _ h => h
  huntTerminal := .inr fun _ _ h => h
  messageError := .inr fun ch e _ _ h => noStart_messageError ch e h
  overrun := .inr fun ch s _ h => by
    unfold overrun; split
    · exact h
    · split
      · exact h
      · exact h
  directiveSent := .inr fun ch _ _ h => noStart_directiveSent ch h
  markHoldEnd := .inr fun ch s _ h => by
    cases ch with
    | radio => exact NoStart.startRadio (s := { s with rch := { s.rch with markHold := false } }) h
    | terminal => exact h
  holdAsserted := .inr fun _ hheld h => fun _ => h hheld
  holdReleased := .inr fun _ _ _ => nofun

theorem keptBefore_radioHold : KeptBefore fun s => s.radioHold = true where
  heardFrom n m s h := (heardFrom_touches n m s .pins (by decide)).1.trans h
  endWindow n s h := (endWindow_touches n s .pins (by decide)).1.trans h
  radio _ _ h := h
  terminal _ _ h := h
  sending q s h := (takeSending_touches q { s with dbi := { s.dbi with onLine := none } } .pins (by decide)).1.trans h

/-- No command but power-on and the line's own release takes the radio hold line back. -/
theorem afterCommand_radioHold {c : Instr} {s : State} (h : s.radioHold = true) (hpower : ∀ p, c ≠ .powerOn p)
    (hrelease : c ≠ .radioHoldLineReleased) : (afterCommand c s).radioHold = true := by
  by_cases hpins : Block.pins ∈ blocksOf c
  · cases c with
    | powerOn p => exact absurd rfl (hpower p)
    | radioHoldLineReleased => exact absurd rfl hrelease
    | radioHoldLineAsserted => rfl
    | terminalHoldLineChange x =>
      change (terminalHoldLine x s).radioHold = true
      unfold terminalHoldLine
      dsimp only
      split
      · exact (takeTerminalHold_touches x { s with terminalHold := x } .pins (by decide)).1.trans h
      · exact h
    | channelBreak ch => cases ch <;> exact absurd hpins (by decide)
    | _ => exact absurd hpins (by simp [blocksOf])
  · exact (afterCommand_touches c s .pins hpins).1.trans h

/-- Power-on leaves the transmitter held at mark, with nothing being sent. -/
theorem powerOnNow_sending (p : Pins) (s : State) : (powerOnNow p s).rch.sending = false := by
  simp [powerOnNow, Chan.enqueue, Chan.reset, State.radioGate, Config.radioPlaces]

theorem afterCommand_starts_nothing {c : Instr} {s : State} (h : s.radioHold = true) (hrelease : c ≠ .radioHoldLineReleased)
    (hsending : (afterCommand c s).rch.sending = true) : s.rch.sending = true := by
  by_cases hpower : ∃ p, c = .powerOn p
  · obtain ⟨p, rfl⟩ := hpower
    rw [show afterCommand (.powerOn p) s = powerOnNow p s from rfl, powerOnNow_sending] at hsending
    nomatch hsending
  · exact ((noStart_shared s.rch.sending).parts (noStart_rest s.rch.sending)).afterCommand keptBefore_radioHold c s h
      (fun _ hs => hs) (afterCommand_radioHold h (fun p hp => hpower ⟨p, hp⟩) hrelease) hsending

/-! ## Directives queued and sent (R181, R186) -/

theorem not_isEmpty_tail {α : Type} (l : List α) : (!l.tail.isEmpty) = decide (1 < l.length) := by
  match l with
  | [] => rfl
  | [_] => rfl
  | _ :: _ :: _ => simp

section
variable {s : State}

theorem radioSent_of_sending (h : s.rch.sending = true) :
    (radioSent s).rch.queue = s.rch.queue.drop 1 ∧
      (radioSent s).radioFault = (s.radioFault && decide (1 < s.rch.queue.length)) ∧
      (radioSent s).rch.sending = (!s.radioHold && !s.rch.markHold && decide (1 < s.rch.queue.length)) ∧
      (radioSent s).rch.drops = s.rch.drops := by
  simp [radioSent, Chan.sent, Chan.start, State.radioGate, h, not_isEmpty_tail]

theorem radioSent_touches (s : State) : Touches [.rch] s (radioSent s) :=
  (directiveSent_touches .radio s).without .tch (by
    change (radioSent s).tch = s.tch
    unfold radioSent
    split <;> rfl)

theorem terminalSent_of_sending (h : s.tch.sending = true) :
    directiveSent .terminal s = { s with tch := { s.tch with
      queue := s.tch.queue.drop 1, sending := !s.tch.markHold && decide (1 < s.tch.queue.length) } } := by
  simp [directiveSent, Chan.sent, Chan.start, State.terminalGate, h, not_isEmpty_tail]

end

/-- Settles O49: the queues, the two transmitters as a directive ends and as they are released, and the hold line. -/
theorem directivesGoOutInOrder : Obligations.DirectivesGoOutInOrder := by
  refine ⟨fun d s => ⟨fun h => queueTerminal_of_room d h, fun h => ?_⟩, fun d s =>
    ⟨fun h => queueRadio_room d h, fun h => queueRadio_full d h, fun h => ?_, fun h => ?_⟩, fun s =>
    ⟨rfl, rfl, ?_, ?_, fun h => congrArg Host.Outcome.next (terminalSent_of_sending h), fun h => ?_⟩,
    fun c s t hexec hhold hrelease hsending => ?_⟩
  · change { s with tch := s.tch.enqueue Config.terminalPlaces s.terminalGate d } = _
    rw [Chan.enqueue, if_pos (show Config.terminalPlaces ≤ s.tch.queue.length from h)]
    rfl
  · obtain ⟨hqueue, hfault, hsending, hdrops⟩ := radioSent_of_sending h
    exact ⟨radioSent s, rfl, hqueue, hfault, hsending, hdrops, radioSent_touches s⟩
  · exact congrArg Host.Outcome.next (if_neg (by simp [h]))
  · change Host.Outcome.next (startRadio { s with rch := { s.rch with markHold := false } }) = _
    simp [startRadio, Chan.start, State.radioGate]
  · change Host.Outcome.next { s with tch := Chan.start true { s.tch with markHold := false } } = _
    simp [Chan.start]
  · change Host.Outcome.next { s with tch := s.tch.sent s.terminalGate } = _
    simp [Chan.sent, h]
  · rw [← afterCommand_of_exec hexec] at hsending
    exact afterCommand_starts_nothing hhold hrelease hsending

end Sys2Proof.Machine
end

section
/-! The characters of the local channels and the messages they make (R175, R176). -/

-- One theorem after another: all at once take more threads than the check's memory holds.
set_option Elab.async false

namespace Sys2Proof.Machine

/-! ## Characters (R175, R176) -/

/-- A parity run over bits tells whether the ones among them are odd in number. -/
theorem foldl_bne_eq (l : List Bool) (p : Bool) : l.foldl (· != ·) p = (p != (l.count true % 2 == 1)) := by
  induction l generalizing p with
  | nil => cases p <;> rfl
  | cons x l ih =>
    rw [List.foldl_cons, ih]
    rcases Nat.mod_two_eq_zero_or_one (l.count true) with h | h <;> cases p <;> cases x <;>
      simp [Nat.add_mod, h]

theorem evenParity_eq (b : Byte) : evenParity b = (((List.range 8).map b.getLsbD).count true % 2 == 1) := by
  rw [evenParity, ← List.foldl_map (f := b.getLsbD) (g := (· != ·)), foldl_bne_eq, Bool.false_bne]

theorem flagBit_testBit (n i : Nat) : flagBit (n.testBit i) i = n / 2 ^ i % 2 * 2 ^ i := by
  rw [flagBit, Nat.testBit_eq_decide_div_mod_eq]
  rcases Nat.mod_two_eq_zero_or_one (n / 2 ^ i) with h | h <;> simp [h]

/-- A byte is the sum of its bits. -/
theorem ofNat_bits (b : Byte) : BitVec.ofNat 8 ((List.range 8).map (fun i => flagBit (b.getLsbD i) i)).sum = b := by
  have hb := b.isLt
  have hsum : ((List.range 8).map (fun i => flagBit (b.getLsbD i) i)).sum = b.toNat := by
    simp only [← BitVec.testBit_toNat, flagBit_testBit, List.range_succ, List.range_zero, List.nil_append,
      List.cons_append, List.map_cons, List.map_nil, List.sum_cons, List.sum_nil]
    omega
  rw [hsum, BitVec.ofNat_toNat, BitVec.setWidth_eq]

section
variable (m : CharMode) (b : Byte)

/-- What follows the data bits: the parity bit where parity is on, and the stop bits. -/
def CharMode.tail (p : Bool) : List Bool :=
  (if m.parity then [p] else []) ++ (if m.twoStopBits then [true, true] else [true])

theorem CharMode.levels_eq : m.levels b = false :: (List.range 8).map b.getLsbD ++ m.tail (evenParity b) := by
  rw [CharMode.levels, CharMode.tail, List.append_assoc]

/-- A character is read from its data bits, and checked by what follows them. -/
theorem CharMode.read_data (rest : List Bool) :
    m.read (false :: (List.range 8).map b.getLsbD ++ rest) =
      if rest.getD (if m.parity then 1 else 0) true = false then .badFraming
      else if m.parity && rest.getD 0 true != evenParity b then .badParity else .char b := by
  have hbits : (List.range 8).map (fun i =>
      flagBit ((false :: (List.range 8).map b.getLsbD ++ rest).getD (i + 1) true) i) =
      (List.range 8).map (fun i => flagBit (b.getLsbD i) i) := rfl
  have hparity : (false :: (List.range 8).map b.getLsbD ++ rest).getD 9 true = rest.getD 0 true := rfl
  have hstop : (false :: (List.range 8).map b.getLsbD ++ rest).getD (if m.parity then 10 else 9) true =
      rest.getD (if m.parity then 1 else 0) true := by cases m.parity <;> rfl
  rw [CharMode.read, hbits, ofNat_bits, hparity, hstop]

theorem CharMode.bitTimes_eq : m.bitTimes = (m.levels b).length ∧ 10 ≤ m.bitTimes ∧ m.bitTimes ≤ 12 := by
  cases hp : m.parity <;> cases ht : m.twoStopBits <;> simp [CharMode.bitTimes, CharMode.levels, hp, ht]

theorem CharMode.read_levels : m.read (m.levels b) = .char b := by
  rw [CharMode.levels_eq, CharMode.read_data, CharMode.tail]
  cases hp : m.parity <;> cases ht : m.twoStopBits <;> simp

theorem CharMode.read_badParity (h : m.parity = true) :
    m.read ((m.levels b).set 9 (!evenParity b)) = .badParity := by
  have hset : (m.levels b).set 9 (!evenParity b) = false :: (List.range 8).map b.getLsbD ++ m.tail (!evenParity b) := by
    rw [CharMode.levels_eq, CharMode.tail, CharMode.tail, h]
    rfl
  rw [hset, CharMode.read_data, CharMode.tail, h]
  cases ht : m.twoStopBits <;> simp

theorem CharMode.read_badFraming :
    m.read ((m.levels b).set (if m.parity then 10 else 9) false) = .badFraming := by
  have hset : (m.levels b).set (if m.parity then 10 else 9) false =
      false :: (List.range 8).map b.getLsbD ++ (m.tail (evenParity b)).set (if m.parity then 1 else 0) false := by
    rw [CharMode.levels_eq]
    cases m.parity <;> rfl
  rw [hset, CharMode.read_data, CharMode.tail]
  cases hp : m.parity <;> cases ht : m.twoStopBits <;> simp

end

/-! ## Messages (R175, R176) -/

/-- A character within a message joins it before its checkbyte. -/
theorem messageChar_joins {bs : List Byte} (b : Byte)
    (h : bs.length < 3 ∨ (bs.getD 2 0#8).toNat ≤ 16 ∧ bs.length < 3 + (bs.getD 2 0#8).toNat) :
    messageChar bs b = (.taking (bs ++ [b]), none) := by
  unfold messageChar
  dsimp only
  rw [if_neg (by simp only [Config.maxMessage]; omega), if_neg (by omega)]

/-- What a receiver and the events so far become as it takes a character. -/
def takeChar (m : CharMode) (p : Receiver × List RxEvent) (b : Byte) : Receiver × List RxEvent :=
  ((receive m p.1 (.char b)).1, p.2 ++ (receive m p.1 (.char b)).2.toList)

theorem takeChar_joins (m : CharMode) {bs : List Byte} (b : Byte) (ev : List RxEvent)
    (h : bs.length < 3 ∨ (bs.getD 2 0#8).toNat ≤ 16 ∧ bs.length < 3 + (bs.getD 2 0#8).toNat) :
    takeChar m (.taking bs, ev) b = (.taking (bs ++ [b]), ev) := by
  simp [takeChar, receive, messageChar_joins b h]

/-- The payload of a message joins it, character by character. -/
theorem takeChar_payload (m : CharMode) (rest : List Byte) (bs : List Byte) (ev : List RxEvent) (hlong : 3 ≤ bs.length)
    (hlen : (bs.getD 2 0#8).toNat ≤ 16) (hrest : bs.length + rest.length ≤ 3 + (bs.getD 2 0#8).toNat) :
    rest.foldl (takeChar m) (.taking bs, ev) = (.taking (bs ++ rest), ev) := by
  induction rest generalizing bs with
  | nil => simp
  | cons b rest ih =>
    rw [List.length_cons] at hrest
    have hkept : (bs ++ [b]).getD 2 0#8 = bs.getD 2 0#8 := by
      rw [List.getD_append _ _ _ _ (by omega)]
    rw [List.foldl_cons, takeChar_joins m b ev (.inr ⟨hlen, by omega⟩),
      ih (bs ++ [b]) (by rw [List.length_append]; omega) (hkept ▸ hlen)
        (by rw [hkept, List.length_append, List.length_singleton]; omega), List.append_assoc]
    rfl

/-- The checkbyte ends a message, a good one (R176). -/
theorem messageChar_good {bs : List Byte} (hlong : 3 ≤ bs.length) (hlen : (bs.getD 2 0#8).toNat ≤ 16)
    (hend : bs.length = 3 + (bs.getD 2 0#8).toNat) :
    messageChar bs (bs.foldl (· ^^^ ·) 0#8) = (.hunting, some (.good (bs.getD 1 0#8).toNat (bs.drop 3))) := by
  unfold messageChar
  dsimp only
  rw [if_neg (by simp only [Config.maxMessage]; omega), if_pos ⟨hlong, hend⟩, if_pos rfl]

theorem channelFrame_received (m : CharMode) {type : Nat} {payload : List Byte} (htype : type < 256)
    (hlength : payload.length ≤ 16) :
    (channelFrame type payload).foldl (takeChar m) (.hunting, []) = (.hunting, [.good type payload]) := by
  set header : List Byte := [0x7E#8, BitVec.ofNat 8 type, BitVec.ofNat 8 payload.length] with hheader
  have hlen : ((header ++ payload).getD 2 0#8).toNat = payload.length := Nat.mod_eq_of_lt (by omega)
  have htypes : ((header ++ payload).getD 1 0#8).toNat = type := Nat.mod_eq_of_lt htype
  have hstart : header.foldl (takeChar m) (.hunting, []) = (.taking header, []) := by
    rw [hheader, List.foldl_cons, show takeChar m (.hunting, []) 0x7E#8 = (.taking [0x7E#8], []) from rfl,
      List.foldl_cons, takeChar_joins m _ _ (.inl (by simp)), List.foldl_cons, takeChar_joins m _ _ (.inl (by simp))]
    rfl
  have hframe : channelFrame type payload = header ++ payload ++ [(header ++ payload).foldl (· ^^^ ·) 0#8] := rfl
  rw [hframe, List.foldl_append, List.foldl_append, hstart, takeChar_payload m payload header [] (by simp [hheader])
    (show (header.getD 2 0#8).toNat ≤ 16 from hlen.trans_le hlength)
    (show 3 + payload.length ≤ 3 + (header.getD 2 0#8).toNat from by rw [show (header.getD 2 0#8).toNat = _ from hlen])]
  have hgood := messageChar_good (bs := header ++ payload) (by simp [hheader]) (hlen.trans_le hlength)
    (by rw [hlen]; simp [hheader]; omega)
  rw [List.foldl_cons, List.foldl_nil, takeChar, receive, hgood, htypes]
  rfl

/-- Settles O51: a character by its data bits and what follows them, a message by its characters in turn. -/
theorem channelFramesAreReceived : Obligations.ChannelFramesAreReceived := by
  refine ⟨fun m b => ?_, fun m type payload htype hlength => channelFrame_received m htype hlength, fun m bs =>
    ⟨rfl, rfl, fun h => by simp [receive, h]⟩⟩
  intro data parity stop
  have hparity : evenParity b = parity := evenParity_eq b
  obtain ⟨hlength, hten, htwelve⟩ := m.bitTimes_eq b
  refine ⟨?_, hlength, hten, htwelve, m.read_levels b, fun h => ?_, m.read_badFraming b⟩
  · rw [CharMode.levels, hparity]
    rfl
  · rw [← hparity]
    exact m.read_badParity b h

end Sys2Proof.Machine
end

section
/-! The frames of the deck bus and the payloads another 5408 acts on, read back (R160 to R162, Tables 12.4 and 12.5). -/

-- One theorem after another: all at once take more threads than the check's memory holds.
set_option Elab.async false

namespace Sys2Proof.Machine

/-! ## Numbers and bytes (12.1) -/

theorem natOf_from (bs : List Byte) (a : Nat) :
    bs.foldl (fun n b => n * 256 + b.toNat) a = a * 256 ^ bs.length + natOf bs := by
  induction bs generalizing a with
  | nil => simp [natOf]
  | cons b bs ih =>
    have hcons : natOf (b :: bs) = (0 * 256 + b.toNat) * 256 ^ bs.length + natOf bs := ih _
    rw [List.foldl_cons, ih, hcons, List.length_cons, Nat.pow_succ]
    ring

theorem natOf_cons (b : Byte) (bs : List Byte) : natOf (b :: bs) = b.toNat * 256 ^ bs.length + natOf bs :=
  (natOf_from bs (0 * 256 + b.toNat)).trans (by rw [Nat.zero_mul, Nat.zero_add])

theorem length_bytesOf (k n : Nat) : (bytesOf k n).length = k := by
  induction k with
  | zero => rfl
  | succ k ih => rw [bytesOf, List.length_cons, ih]

theorem natOf_bytesOf (k n : Nat) : natOf (bytesOf k n) = n % 256 ^ k := by
  induction k with
  | zero => simp [bytesOf, natOf, Nat.mod_one]
  | succ k ih =>
    have hshift : n >>> (8 * k) = n / 256 ^ k := by rw [Nat.shiftRight_eq_div_pow, Nat.pow_mul]
    have hpow : 256 ^ (k + 1) = 256 ^ k * 256 := Nat.pow_succ 256 k
    rw [bytesOf, natOf_cons, ih, length_bytesOf, hshift, BitVec.toNat_ofNat, hpow, Nat.mod_mul, Nat.mul_comm, Nat.add_comm]

theorem natOf_bytesOf_of_lt {k n : Nat} (h : n < 256 ^ k) : natOf (bytesOf k n) = n := by
  rw [natOf_bytesOf, Nat.mod_eq_of_lt h]

theorem taken_append (p bs q : List Byte) : taken (p ++ (bs ++ q)) p.length bs.length = bs := by
  refine List.ext_getElem (by simp [taken]) fun j hj hj' => ?_
  simp only [taken, List.getElem_map, List.getElem_range]
  rw [List.getD_eq_getElem?_getD, List.getElem?_append_right (Nat.le_add_right ..), Nat.add_sub_cancel_left,
    List.getElem?_append_left hj', List.getElem?_eq_getElem hj', Option.getD_some]

theorem field_append (p q : List Byte) (k n : Nat) (h : n < 256 ^ k) :
    field (p ++ (bytesOf k n ++ q)) p.length k = n := by
  have hbytes := taken_append p (bytesOf k n) q
  rw [length_bytesOf] at hbytes
  change natOf (taken _ _ _) = n
  rw [hbytes, natOf_bytesOf_of_lt h]

/-! ## Frames (R160, R162) -/

theorem Kind.ofCode_code (kind : Kind) : Kind.ofCode kind.code = some kind := by cases kind <;> rfl

theorem Kind.code_lt (kind : Kind) : kind.code < 64 ∧ kind.cls ≤ 6 := by cases kind <;> decide

/-- The fields of a header word (Table 12.1). -/
theorem headerWord_fields (kind : Kind) {deferral sender : Nat} (hsender : sender ≤ 31) :
    headerWord kind deferral sender < 65536 ∧ headerWord kind deferral sender / 64 % 32 = sender ∧
      headerWord kind deferral sender % 64 = kind.code ∧ headerWord kind deferral sender / 8192 = kind.cls := by
  obtain ⟨hcode, hcls⟩ := kind.code_lt
  simp only [headerWord, arbitrationField]
  omega

/-- A frame built is a frame read back (R160 to R162). -/
theorem decodeFrame_frameBytes (kind : Kind) {deferral sender own : Nat} (board : Board) {payload : List Byte}
    (hlow : 1 ≤ sender) (hhigh : sender ≤ 31) (hlength : payload.length ≤ 32) :
    decodeFrame own board (frameBytes kind deferral sender payload) = frameCommand own board sender kind payload := by
  obtain ⟨hword, hsender, hcode, hcls⟩ := headerWord_fields kind (deferral := deferral) hhigh
  set head := bytesOf 2 (headerWord kind deferral sender) with hhead
  set len := bytesOf 1 payload.length with hlen
  set body := frameBody kind deferral sender payload with hbody
  set check := bytesOf 2 (checkwordFrom 0 body).toNat with hcheck
  have hbodylen : body.length = 3 + payload.length := by
    simp [hbody, frameBody, length_bytesOf]
    omega
  have hframe : frameBytes kind deferral sender payload = body ++ (check ++ []) := by
    rw [List.append_nil]; rfl
  have hheadf : field (body ++ (check ++ [])) 0 2 = headerWord kind deferral sender := by
    have h := field_append [] (len ++ payload ++ (check ++ [])) 2 (headerWord kind deferral sender) hword
    simpa [hbody, frameBody] using h
  have hlenf : field (body ++ (check ++ [])) 2 1 = payload.length := by
    have h := field_append head (payload ++ (check ++ [])) 1 payload.length (by omega)
    rw [hhead, length_bytesOf] at h
    simpa [hbody, frameBody] using h
  have hcheckf : field (body ++ (check ++ [])) (3 + payload.length) 2 = (checkwordFrom 0 body).toNat := by
    rw [← hbodylen]
    exact field_append body [] 2 _ (checkwordFrom 0 body).isLt
  have hbodyt : taken (body ++ (check ++ [])) 0 (3 + payload.length) = body := by
    rw [← hbodylen]
    exact taken_append [] body (check ++ [])
  have hpayload : taken (body ++ (check ++ [])) 3 payload.length = payload := by
    have h := taken_append (head ++ len) payload (check ++ [])
    rw [List.length_append, hhead, hlen, length_bytesOf, length_bytesOf] at h
    simpa [hbody, frameBody] using h
  rw [hframe, decodeFrame, hheadf, hlenf, hcheckf, hbodyt, hpayload, BitVec.ofNat_toNat, BitVec.setWidth_eq]
  rw [hsender, hcode, hcls, Kind.ofCode_code, if_neg (by simpa [Config.maxPayload] using hlength), if_neg (by simp),
    if_neg (by omega)]
  exact if_neg (by simp)

/-! ## Payloads (Tables 12.4, 12.5) -/

theorem flagBit_eq (b : Bool) (i : Nat) : flagBit b i = b.toNat * 2 ^ i := by cases b <;> simp [flagBit]

theorem bitAt_of_field {bs : List Byte} {i place : Nat} {b : Bool} (h : field bs i 1 / 2 ^ place % 2 = b.toNat) :
    bitAt bs i place = b := by
  rw [bitAt, Nat.testBit_eq_decide_div_mod_eq, h]
  cases b <;> rfl

theorem servingOf_of_mod {n : Nat} {v : Serving} (h : n % 4 = servingCode v) : servingOf n = v := by
  rw [servingOf, h]
  cases v <;> rfl

theorem servingCode_lt (v : Serving) : servingCode v < 4 := by cases v <;> decide

theorem phaseOf_phaseCode (p : Phase) : phaseOf (phaseCode p) = p := by cases p <;> rfl

theorem phaseCode_lt (p : Phase) : phaseCode p < 8 := by cases p <;> decide

/-- Places of a list past its end hold 0, and are not used. -/
theorem filter_places (k : Nat) (l : List Nat) (hlength : l.length ≤ k) (h : ∀ p ∈ l, p ≠ 0) :
    ((List.range k).map (fun i => l.getD i 0)).filter (fun n => n != 0) = l := by
  induction k generalizing l with
  | zero => rw [List.length_eq_zero_iff.1 (Nat.le_zero.1 hlength)]; rfl
  | succ k ih =>
    rw [List.range_succ_eq_map, List.map_cons, List.map_map]
    cases l with
    | nil => simp
    | cons p l =>
      have hp : p ≠ 0 := h p (List.mem_cons_self ..)
      have htail := ih l (Nat.le_of_succ_le_succ hlength) fun q hq => h q (List.mem_cons_of_mem p hq)
      rw [List.filter_cons_of_pos (by simpa using hp)]
      exact congrArg (p :: ·) htail

theorem releaseOf_releaseBytes {m : ReleaseMsg} (h : m.wf = true) : releaseOf (releaseBytes m) = m := by
  simp only [ReleaseMsg.wf, fits, Bool.and_eq_true, decide_eq_true_eq] at h
  obtain ⟨⟨⟨hkey, hclaimant⟩, hcharge⟩, hvoyage⟩ := h
  have hkeyf : field (releaseBytes m) 0 5 = m.key := natOf_bytesOf_of_lt (k := 5) hkey
  have hclaimantf : field (releaseBytes m) 5 1 = m.claimant := natOf_bytesOf_of_lt (k := 1) hclaimant
  have hchargef : field (releaseBytes m) 6 3 = m.charge := natOf_bytesOf_of_lt (k := 3) hcharge
  have hflagf : field (releaseBytes m) 9 1 = flagBit m.capReached 0 :=
    natOf_bytesOf_of_lt (k := 1) (by cases m.capReached <;> decide)
  have hvoyagef : field (releaseBytes m) 10 1 = m.voyage := natOf_bytesOf_of_lt (k := 1) hvoyage
  have hreached : bitAt (releaseBytes m) 9 0 = m.capReached :=
    bitAt_of_field (by rw [hflagf]; cases m.capReached <;> rfl)
  rw [releaseOf, hkeyf, hclaimantf, hchargef, hvoyagef, hreached]

/-- The first byte of a BEACON (Table 12.5). -/
theorem beaconBytes_flags (m : BeaconMsg) :
    servingOf (field (beaconBytes m) 0 1) = m.serving ∧ bitAt (beaconBytes m) 0 2 = m.slip ∧
      bitAt (beaconBytes m) 0 3 = m.radioFault ∧ bitAt (beaconBytes m) 0 4 = m.storeHigh ∧
      bitAt (beaconBytes m) 0 5 = m.configFault ∧ bitAt (beaconBytes m) 0 6 = m.hold := by
  have hserving := servingCode_lt m.serving
  have h1 := m.slip.toNat_le
  have h2 := m.radioFault.toNat_le
  have h3 := m.storeHigh.toNat_le
  have h4 := m.configFault.toNat_le
  have h5 := m.hold.toNat_le
  have hbyte : field (beaconBytes m) 0 1 = servingCode m.serving + m.slip.toNat * 4 + m.radioFault.toNat * 8 +
      m.storeHigh.toNat * 16 + m.configFault.toNat * 32 + m.hold.toNat * 64 := by
    have hsum : servingCode m.serving + flagBit m.slip 2 + flagBit m.radioFault 3 + flagBit m.storeHigh 4 +
        flagBit m.configFault 5 + flagBit m.hold 6 = servingCode m.serving + m.slip.toNat * 4 +
        m.radioFault.toNat * 8 + m.storeHigh.toNat * 16 + m.configFault.toNat * 32 + m.hold.toNat * 64 := by
      simp only [flagBit_eq]
      rfl
    rw [← hsum]
    exact natOf_bytesOf_of_lt (k := 1) (by rw [hsum]; omega)
  exact ⟨servingOf_of_mod (by rw [hbyte]; omega), bitAt_of_field (by rw [hbyte]; omega),
    bitAt_of_field (by rw [hbyte]; omega), bitAt_of_field (by rw [hbyte]; omega), bitAt_of_field (by rw [hbyte]; omega),
    bitAt_of_field (by rw [hbyte]; omega)⟩

theorem beaconBytes_cover {m : BeaconMsg} (hlength : m.cover.length ≤ 4) (h : ∀ p ∈ m.cover, 1 ≤ p ∧ p < 256) :
    ([5, 6, 7, 8].map (fun i => field (beaconBytes m) i 1)).filter (fun n => n != 0) = m.cover := by
  have hplace : ∀ i, m.cover.getD i 0 < 256 := fun i => by
    rw [List.getD_eq_getElem?_getD]
    cases hi : m.cover[i]? with
    | none => decide
    | some p => exact (h p (List.mem_of_getElem? hi)).2
  have hbyte : ∀ i, (0 * 256 + (BitVec.ofNat 8 (m.cover.getD i 0)).toNat) = m.cover.getD i 0 := fun i => by
    rw [BitVec.toNat_ofNat, Nat.mod_eq_of_lt (hplace i)]
    omega
  have hfields : [5, 6, 7, 8].map (fun i => field (beaconBytes m) i 1) =
      (List.range 4).map (fun i => 0 * 256 + (BitVec.ofNat 8 (m.cover.getD i 0)).toNat) := rfl
  rw [hfields, List.map_congr_left fun i _ => hbyte i]
  exact filter_places 4 m.cover hlength fun p hp => Nat.one_le_iff_ne_zero.1 (h p hp).1

theorem beaconOf_beaconBytes {m : BeaconMsg} (h : m.wf = true) : beaconOf (beaconBytes m) = m := by
  simp only [BeaconMsg.wf, fits, Bool.and_eq_true, decide_eq_true_eq, List.all_eq_true] at h
  obtain ⟨⟨⟨⟨⟨hcount, hleg⟩, hvoyage⟩, hlink⟩, hlength⟩, hcover⟩ := h
  obtain ⟨hserving, hslip, hfault, hhigh, hconfig, hhold⟩ := beaconBytes_flags m
  have hphase := phaseCode_lt m.phase
  have hcountf : field (beaconBytes m) 1 1 = m.openCount := natOf_bytesOf_of_lt (k := 1) hcount
  have hlegf : field (beaconBytes m) 2 1 = m.leg := natOf_bytesOf_of_lt (k := 1) hleg
  have hvoyagef : field (beaconBytes m) 3 1 = m.voyage := natOf_bytesOf_of_lt (k := 1) hvoyage
  have hlinkf : field (beaconBytes m) 4 1 = m.linkId % 8 + 16 * phaseCode m.phase :=
    natOf_bytesOf_of_lt (k := 1) (by omega)
  have hlinkId : (m.linkId % 8 + 16 * phaseCode m.phase) % 8 = m.linkId := by omega
  have hphaseCode : (m.linkId % 8 + 16 * phaseCode m.phase) / 16 = phaseCode m.phase := by omega
  rw [beaconOf, hserving, hslip, hfault, hhigh, hconfig, hhold, hcountf, hlegf, hvoyagef, hlinkf, hlinkId, hphaseCode,
    phaseOf_phaseCode, beaconBytes_cover hlength hcover]

/-- The first byte of a LINK (Table 12.4). -/
theorem linkBytes_link (m : LinkMsg) (h : m.linkId < 8) :
    field (linkBytes m) 0 1 % 8 = m.linkId ∧ bitAt (linkBytes m) 0 7 = m.hold := by
  have hhold := m.hold.toNat_le
  have hbyte : field (linkBytes m) 0 1 = m.linkId + m.hold.toNat * 128 := by
    have hsum : m.linkId % 8 + flagBit m.hold 7 = m.linkId + m.hold.toNat * 128 := by
      rw [flagBit_eq, Nat.mod_eq_of_lt h]
      rfl
    have hlt : m.linkId % 8 + flagBit m.hold 7 < 256 := by rw [hsum]; omega
    rw [← hsum]
    exact natOf_bytesOf_of_lt (k := 1) hlt
  exact ⟨by rw [hbyte]; omega, bitAt_of_field (by rw [hbyte]; omega)⟩

theorem linkCommand_linkBytes (n : Nat) {link : Nat} (hold : Bool) (h : link < 8) :
    linkCommand n (linkBytes ⟨link, hold, .carry⟩) = .linkCarryHeard n link hold ∧
      linkCommand n (linkBytes ⟨link, hold, .drain⟩) = .linkDrainHeard n link hold ∧
      ∀ failed, linkCommand n (linkBytes ⟨link, hold, .down failed⟩) = .linkDownHeard n link hold failed := by
  refine ⟨?_, ?_, fun failed => ?_⟩
  · obtain ⟨hlink, hhold⟩ := linkBytes_link ⟨link, hold, .carry⟩ h
    rw [linkCommand, hlink, hhold]
    rfl
  · obtain ⟨hlink, hhold⟩ := linkBytes_link ⟨link, hold, .drain⟩ h
    rw [linkCommand, hlink, hhold]
    rfl
  · obtain ⟨hlink, hhold⟩ := linkBytes_link ⟨link, hold, .down failed⟩ h
    have hbyte : field (linkBytes ⟨link, hold, .down failed⟩) 1 1 = 3 + flagBit failed 7 :=
      natOf_bytesOf_of_lt (k := 1) (by cases failed <;> decide)
    have hcode : (3 + flagBit failed 7) % 4 = 3 := by cases failed <;> rfl
    have hmark : bitAt (linkBytes ⟨link, hold, .down failed⟩) 1 7 = failed :=
      bitAt_of_field (by rw [hbyte]; cases failed <;> rfl)
    simp only [linkCommand, hlink, hhold, hbyte, hcode, hmark]

/-- Settles O50: the frame by its fields, and the four payloads by theirs. -/
theorem framesAndPayloadsReadBack : Obligations.FramesAndPayloadsReadBack := by
  refine ⟨fun kind deferral sender own board payload _ hlow hhigh hlength =>
    decodeFrame_frameBytes kind board hlow hhigh hlength, fun own n board =>
    ⟨fun key hkey => ?_, fun m h => ?_, fun m h => ?_, fun link hold h => linkCommand_linkBytes n hold h⟩⟩
  · exact congrArg (fun k => Instr.claimHeard n (some k)) (natOf_bytesOf_of_lt (k := 5) hkey)
  · exact congrArg (fun m => Instr.releaseHeard n (some m)) (releaseOf_releaseBytes h)
  · exact congrArg (fun m => Instr.beaconHeard n (some m)) (beaconOf_beaconBytes h)

end Sys2Proof.Machine
end
